-- ==== Sys2Proof/Word.lean ====
section
/-! DEFINITION. The word types of the core: an 8-bit data byte, a 16-bit address, the 64-bit cycle count
(00_scope.md rule R5: XLEN = 8, ALEN = 16, CYC_W = 64). Arithmetic on them wraps (rule R7). -/

namespace Sys2Proof

/-- A byte: A, X, Y, IR, an operand byte, a storage byte (00_scope.md R5, XLEN). -/
abbrev Byte := BitVec 8

/-- A 16-bit address: PC, an effective address, a pointer (00_scope.md R5, ALEN). -/
abbrev Addr := BitVec 16

/-- The cycle counter's width (10_state.md R36). -/
abbrev CycleCount := BitVec 64

end Sys2Proof
end

