-- ==== Sys2Proof/Syntax.lean ====
section
/-! DEFINITION. The syntax: the 56 operations and thirteen addressing modes the opcode table names (30_encoding.md rules
R85 to R87), and ONE constructor of `Instr` per row of spec/opcode_table.json, that is per legal opcode byte. -/

namespace Sys2Proof

/-- The operation of a descriptor: one of the 56 mnemonics (30_encoding.md R85, R87). -/
inductive Op where
  | lda | ldx | ldy | sta | stx | sty
  | adc | and | bit
  | asl | inc | dec | inx | iny | dex | dey
  | cmp | cpx | cpy
  | bpl | bmi | bvc | bvs | bcc | bcs | bne | beq | jmp
  | ora | eor | sbc | lsr | rol | ror | tax | tay | txa | tya | tsx | txs | pha | pla
  | php | plp | jsr | rts | rti | brk | nop | clc | sec | cli | sei | clv | cld | sed
  deriving DecidableEq, Repr

/-- The thirteen addressing-mode tags (30_encoding.md R86). -/
inductive Mode where
  | imp | acc | imm | zp | zpx | zpy | abs | abx | aby | ind | izx | izy | rel
  deriving DecidableEq, Repr

/-- The two classes of legal opcodes (30_encoding.md R88). -/
inductive OpClass where
  | exec | decodeOnly
  deriving DecidableEq, Repr

/-- SIM's "operation identity": the pair (op, mode) that names one row of the opcode table (30_encoding.md R85). -/
structure Entry where
  op   : Op
  mode : Mode
  deriving DecidableEq, Repr

/-- A descriptor, the decoder's output for one opcode byte (30_encoding.md R85). -/
structure Descriptor where
  op     : Op
  mode   : Mode
  length : Nat
  cycles : Nat
  cls    : OpClass
  deriving DecidableEq, Repr

/-- What a caller hands to `Encode`: a table entry and a list of operand bytes (30_encoding.md R91). -/
structure Draft where
  entry    : Entry
  operands : List Byte
  deriving DecidableEq, Repr

/-- An instruction: a legal opcode byte, named by its mnemonic and mode, with its operand field
(30_encoding.md R83: `imm8`, `zp8`, `rel8` are one byte, `addr16` is two, low byte first). -/
inductive Instr where
  -- 41_load_store.md, rules R160 to R165
  | ldaImm (imm8 : Byte) | ldaZp (zp8 : Byte) | ldaZpx (zp8 : Byte) | ldaAbs (addr16 : Addr)
  | ldaAbx (addr16 : Addr) | ldaAby (addr16 : Addr) | ldaIzx (zp8 : Byte) | ldaIzy (zp8 : Byte)
  | ldxImm (imm8 : Byte) | ldxZp (zp8 : Byte) | ldxZpy (zp8 : Byte) | ldxAbs (addr16 : Addr)
  | ldxAby (addr16 : Addr)
  | ldyImm (imm8 : Byte) | ldyZp (zp8 : Byte) | ldyZpx (zp8 : Byte) | ldyAbs (addr16 : Addr)
  | ldyAbx (addr16 : Addr)
  | staZp (zp8 : Byte) | staZpx (zp8 : Byte) | staAbs (addr16 : Addr) | staAbx (addr16 : Addr)
  | staAby (addr16 : Addr) | staIzx (zp8 : Byte) | staIzy (zp8 : Byte)
  | stxZp (zp8 : Byte) | stxZpy (zp8 : Byte) | stxAbs (addr16 : Addr)
  | styZp (zp8 : Byte) | styZpx (zp8 : Byte) | styAbs (addr16 : Addr)
  -- 42_arith_logic.md, rules R180 to R182
  | adcImm (imm8 : Byte) | adcZp (zp8 : Byte) | adcZpx (zp8 : Byte) | adcAbs (addr16 : Addr)
  | adcAbx (addr16 : Addr) | adcAby (addr16 : Addr) | adcIzx (zp8 : Byte) | adcIzy (zp8 : Byte)
  | andImm (imm8 : Byte) | andZp (zp8 : Byte) | andZpx (zp8 : Byte) | andAbs (addr16 : Addr)
  | andAbx (addr16 : Addr) | andAby (addr16 : Addr) | andIzx (zp8 : Byte) | andIzy (zp8 : Byte)
  | bitZp (zp8 : Byte) | bitAbs (addr16 : Addr)
  -- 43_shift_incdec.md, rules R200 to R206
  | aslAcc | aslZp (zp8 : Byte) | aslZpx (zp8 : Byte) | aslAbs (addr16 : Addr)
  | aslAbx (addr16 : Addr)
  | incZp (zp8 : Byte) | incZpx (zp8 : Byte) | incAbs (addr16 : Addr) | incAbx (addr16 : Addr)
  | decZp (zp8 : Byte) | decZpx (zp8 : Byte) | decAbs (addr16 : Addr) | decAbx (addr16 : Addr)
  | inx
  | iny
  | dex
  | dey
  -- 44_compare.md, rules R221 to R223
  | cmpImm (imm8 : Byte) | cmpZp (zp8 : Byte) | cmpZpx (zp8 : Byte) | cmpAbs (addr16 : Addr)
  | cmpAbx (addr16 : Addr) | cmpAby (addr16 : Addr) | cmpIzx (zp8 : Byte) | cmpIzy (zp8 : Byte)
  | cpxImm (imm8 : Byte) | cpxZp (zp8 : Byte) | cpxAbs (addr16 : Addr)
  | cpyImm (imm8 : Byte) | cpyZp (zp8 : Byte) | cpyAbs (addr16 : Addr)
  -- 45_branch_jump.md, rules R231 to R239
  | bpl (rel8 : Byte)
  | bmi (rel8 : Byte)
  | bvc (rel8 : Byte)
  | bvs (rel8 : Byte)
  | bcc (rel8 : Byte)
  | bcs (rel8 : Byte)
  | bne (rel8 : Byte)
  | beq (rel8 : Byte)
  | jmpAbs (addr16 : Addr) | jmpInd (addr16 : Addr)
  -- 46_decode_only.md, rules R251 to R278 (class DECODE_ONLY)
  | oraImm (imm8 : Byte) | oraZp (zp8 : Byte) | oraZpx (zp8 : Byte) | oraAbs (addr16 : Addr)
  | oraAbx (addr16 : Addr) | oraAby (addr16 : Addr) | oraIzx (zp8 : Byte) | oraIzy (zp8 : Byte)
  | eorImm (imm8 : Byte) | eorZp (zp8 : Byte) | eorZpx (zp8 : Byte) | eorAbs (addr16 : Addr)
  | eorAbx (addr16 : Addr) | eorAby (addr16 : Addr) | eorIzx (zp8 : Byte) | eorIzy (zp8 : Byte)
  | sbcImm (imm8 : Byte) | sbcZp (zp8 : Byte) | sbcZpx (zp8 : Byte) | sbcAbs (addr16 : Addr)
  | sbcAbx (addr16 : Addr) | sbcAby (addr16 : Addr) | sbcIzx (zp8 : Byte) | sbcIzy (zp8 : Byte)
  | lsrAcc | lsrZp (zp8 : Byte) | lsrZpx (zp8 : Byte) | lsrAbs (addr16 : Addr)
  | lsrAbx (addr16 : Addr)
  | rolAcc | rolZp (zp8 : Byte) | rolZpx (zp8 : Byte) | rolAbs (addr16 : Addr)
  | rolAbx (addr16 : Addr)
  | rorAcc | rorZp (zp8 : Byte) | rorZpx (zp8 : Byte) | rorAbs (addr16 : Addr)
  | rorAbx (addr16 : Addr)
  | tax
  | tay
  | txa
  | tya
  | tsx
  | txs
  | pha
  | pla
  | php
  | plp
  | jsr (addr16 : Addr)
  | rts
  | rti
  | brk
  | nop
  | clc
  | sec
  | cli
  | sei
  | clv
  | cld
  | sed
  deriving DecidableEq, Repr

/-- The row of the opcode table a constructor stands for (30_encoding.md R87). -/
def Instr.entry : Instr → Entry
  | .ldaImm _ => ⟨.lda, .imm⟩
  | .ldaZp _ => ⟨.lda, .zp⟩
  | .ldaZpx _ => ⟨.lda, .zpx⟩
  | .ldaAbs _ => ⟨.lda, .abs⟩
  | .ldaAbx _ => ⟨.lda, .abx⟩
  | .ldaAby _ => ⟨.lda, .aby⟩
  | .ldaIzx _ => ⟨.lda, .izx⟩
  | .ldaIzy _ => ⟨.lda, .izy⟩
  | .ldxImm _ => ⟨.ldx, .imm⟩
  | .ldxZp _ => ⟨.ldx, .zp⟩
  | .ldxZpy _ => ⟨.ldx, .zpy⟩
  | .ldxAbs _ => ⟨.ldx, .abs⟩
  | .ldxAby _ => ⟨.ldx, .aby⟩
  | .ldyImm _ => ⟨.ldy, .imm⟩
  | .ldyZp _ => ⟨.ldy, .zp⟩
  | .ldyZpx _ => ⟨.ldy, .zpx⟩
  | .ldyAbs _ => ⟨.ldy, .abs⟩
  | .ldyAbx _ => ⟨.ldy, .abx⟩
  | .staZp _ => ⟨.sta, .zp⟩
  | .staZpx _ => ⟨.sta, .zpx⟩
  | .staAbs _ => ⟨.sta, .abs⟩
  | .staAbx _ => ⟨.sta, .abx⟩
  | .staAby _ => ⟨.sta, .aby⟩
  | .staIzx _ => ⟨.sta, .izx⟩
  | .staIzy _ => ⟨.sta, .izy⟩
  | .stxZp _ => ⟨.stx, .zp⟩
  | .stxZpy _ => ⟨.stx, .zpy⟩
  | .stxAbs _ => ⟨.stx, .abs⟩
  | .styZp _ => ⟨.sty, .zp⟩
  | .styZpx _ => ⟨.sty, .zpx⟩
  | .styAbs _ => ⟨.sty, .abs⟩
  | .adcImm _ => ⟨.adc, .imm⟩
  | .adcZp _ => ⟨.adc, .zp⟩
  | .adcZpx _ => ⟨.adc, .zpx⟩
  | .adcAbs _ => ⟨.adc, .abs⟩
  | .adcAbx _ => ⟨.adc, .abx⟩
  | .adcAby _ => ⟨.adc, .aby⟩
  | .adcIzx _ => ⟨.adc, .izx⟩
  | .adcIzy _ => ⟨.adc, .izy⟩
  | .andImm _ => ⟨.and, .imm⟩
  | .andZp _ => ⟨.and, .zp⟩
  | .andZpx _ => ⟨.and, .zpx⟩
  | .andAbs _ => ⟨.and, .abs⟩
  | .andAbx _ => ⟨.and, .abx⟩
  | .andAby _ => ⟨.and, .aby⟩
  | .andIzx _ => ⟨.and, .izx⟩
  | .andIzy _ => ⟨.and, .izy⟩
  | .bitZp _ => ⟨.bit, .zp⟩
  | .bitAbs _ => ⟨.bit, .abs⟩
  | .aslAcc => ⟨.asl, .acc⟩
  | .aslZp _ => ⟨.asl, .zp⟩
  | .aslZpx _ => ⟨.asl, .zpx⟩
  | .aslAbs _ => ⟨.asl, .abs⟩
  | .aslAbx _ => ⟨.asl, .abx⟩
  | .incZp _ => ⟨.inc, .zp⟩
  | .incZpx _ => ⟨.inc, .zpx⟩
  | .incAbs _ => ⟨.inc, .abs⟩
  | .incAbx _ => ⟨.inc, .abx⟩
  | .decZp _ => ⟨.dec, .zp⟩
  | .decZpx _ => ⟨.dec, .zpx⟩
  | .decAbs _ => ⟨.dec, .abs⟩
  | .decAbx _ => ⟨.dec, .abx⟩
  | .inx => ⟨.inx, .imp⟩
  | .iny => ⟨.iny, .imp⟩
  | .dex => ⟨.dex, .imp⟩
  | .dey => ⟨.dey, .imp⟩
  | .cmpImm _ => ⟨.cmp, .imm⟩
  | .cmpZp _ => ⟨.cmp, .zp⟩
  | .cmpZpx _ => ⟨.cmp, .zpx⟩
  | .cmpAbs _ => ⟨.cmp, .abs⟩
  | .cmpAbx _ => ⟨.cmp, .abx⟩
  | .cmpAby _ => ⟨.cmp, .aby⟩
  | .cmpIzx _ => ⟨.cmp, .izx⟩
  | .cmpIzy _ => ⟨.cmp, .izy⟩
  | .cpxImm _ => ⟨.cpx, .imm⟩
  | .cpxZp _ => ⟨.cpx, .zp⟩
  | .cpxAbs _ => ⟨.cpx, .abs⟩
  | .cpyImm _ => ⟨.cpy, .imm⟩
  | .cpyZp _ => ⟨.cpy, .zp⟩
  | .cpyAbs _ => ⟨.cpy, .abs⟩
  | .bpl _ => ⟨.bpl, .rel⟩
  | .bmi _ => ⟨.bmi, .rel⟩
  | .bvc _ => ⟨.bvc, .rel⟩
  | .bvs _ => ⟨.bvs, .rel⟩
  | .bcc _ => ⟨.bcc, .rel⟩
  | .bcs _ => ⟨.bcs, .rel⟩
  | .bne _ => ⟨.bne, .rel⟩
  | .beq _ => ⟨.beq, .rel⟩
  | .jmpAbs _ => ⟨.jmp, .abs⟩
  | .jmpInd _ => ⟨.jmp, .ind⟩
  | .oraImm _ => ⟨.ora, .imm⟩
  | .oraZp _ => ⟨.ora, .zp⟩
  | .oraZpx _ => ⟨.ora, .zpx⟩
  | .oraAbs _ => ⟨.ora, .abs⟩
  | .oraAbx _ => ⟨.ora, .abx⟩
  | .oraAby _ => ⟨.ora, .aby⟩
  | .oraIzx _ => ⟨.ora, .izx⟩
  | .oraIzy _ => ⟨.ora, .izy⟩
  | .eorImm _ => ⟨.eor, .imm⟩
  | .eorZp _ => ⟨.eor, .zp⟩
  | .eorZpx _ => ⟨.eor, .zpx⟩
  | .eorAbs _ => ⟨.eor, .abs⟩
  | .eorAbx _ => ⟨.eor, .abx⟩
  | .eorAby _ => ⟨.eor, .aby⟩
  | .eorIzx _ => ⟨.eor, .izx⟩
  | .eorIzy _ => ⟨.eor, .izy⟩
  | .sbcImm _ => ⟨.sbc, .imm⟩
  | .sbcZp _ => ⟨.sbc, .zp⟩
  | .sbcZpx _ => ⟨.sbc, .zpx⟩
  | .sbcAbs _ => ⟨.sbc, .abs⟩
  | .sbcAbx _ => ⟨.sbc, .abx⟩
  | .sbcAby _ => ⟨.sbc, .aby⟩
  | .sbcIzx _ => ⟨.sbc, .izx⟩
  | .sbcIzy _ => ⟨.sbc, .izy⟩
  | .lsrAcc => ⟨.lsr, .acc⟩
  | .lsrZp _ => ⟨.lsr, .zp⟩
  | .lsrZpx _ => ⟨.lsr, .zpx⟩
  | .lsrAbs _ => ⟨.lsr, .abs⟩
  | .lsrAbx _ => ⟨.lsr, .abx⟩
  | .rolAcc => ⟨.rol, .acc⟩
  | .rolZp _ => ⟨.rol, .zp⟩
  | .rolZpx _ => ⟨.rol, .zpx⟩
  | .rolAbs _ => ⟨.rol, .abs⟩
  | .rolAbx _ => ⟨.rol, .abx⟩
  | .rorAcc => ⟨.ror, .acc⟩
  | .rorZp _ => ⟨.ror, .zp⟩
  | .rorZpx _ => ⟨.ror, .zpx⟩
  | .rorAbs _ => ⟨.ror, .abs⟩
  | .rorAbx _ => ⟨.ror, .abx⟩
  | .tax => ⟨.tax, .imp⟩
  | .tay => ⟨.tay, .imp⟩
  | .txa => ⟨.txa, .imp⟩
  | .tya => ⟨.tya, .imp⟩
  | .tsx => ⟨.tsx, .imp⟩
  | .txs => ⟨.txs, .imp⟩
  | .pha => ⟨.pha, .imp⟩
  | .pla => ⟨.pla, .imp⟩
  | .php => ⟨.php, .imp⟩
  | .plp => ⟨.plp, .imp⟩
  | .jsr _ => ⟨.jsr, .abs⟩
  | .rts => ⟨.rts, .imp⟩
  | .rti => ⟨.rti, .imp⟩
  | .brk => ⟨.brk, .imp⟩
  | .nop => ⟨.nop, .imp⟩
  | .clc => ⟨.clc, .imp⟩
  | .sec => ⟨.sec, .imp⟩
  | .cli => ⟨.cli, .imp⟩
  | .sei => ⟨.sei, .imp⟩
  | .clv => ⟨.clv, .imp⟩
  | .cld => ⟨.cld, .imp⟩
  | .sed => ⟨.sed, .imp⟩

end Sys2Proof
end

