-- ==== Sys2Proof/WellFormed.lean ====
section
/-! DEFINITION. Well-formedness. Every operand value is legal (30_encoding.md rule R90) and every field of `Instr` has its
exact width, so what can be ill-formed is a request to the encoder (a `Draft`): its entry may name a pair (op, mode) that has no
opcode (40_step_and_addressing.md rule R145), or its operand list may have the wrong length (30_encoding.md rule R91). -/

namespace Sys2Proof

/-- The operand bytes of a mode (30_encoding.md R82, R86). -/
def Mode.operandBytes : Mode → Nat
  | .imp | .acc => 0
  | .imm | .zp | .zpx | .zpy | .izx | .izy | .rel => 1
  | .abs | .abx | .aby | .ind => 2

/-- The modes each operation has an opcode for (30_encoding.md R87; 40_step_and_addressing.md R145). -/
def Op.modes : Op → List Mode
  | .lda | .adc | .and | .cmp | .ora | .eor | .sbc => [.imm, .zp, .zpx, .abs, .abx, .aby, .izx, .izy]
  | .ldx => [.imm, .zp, .zpy, .abs, .aby]
  | .ldy => [.imm, .zp, .zpx, .abs, .abx]
  | .sta => [.zp, .zpx, .abs, .abx, .aby, .izx, .izy]
  | .stx => [.zp, .zpy, .abs]
  | .sty => [.zp, .zpx, .abs]
  | .bit => [.zp, .abs]
  | .asl | .lsr | .rol | .ror => [.acc, .zp, .zpx, .abs, .abx]
  | .inc | .dec => [.zp, .zpx, .abs, .abx]
  | .inx | .iny | .dex | .dey | .tax | .tay | .txa | .tya | .tsx | .txs | .pha | .pla
  | .php | .plp | .rts | .rti | .brk | .nop | .clc | .sec | .cli | .sei | .clv | .cld
  | .sed => [.imp]
  | .cpx | .cpy => [.imm, .zp, .abs]
  | .bpl | .bmi | .bvc | .bvs | .bcc | .bcs | .bne | .beq => [.rel]
  | .jmp => [.abs, .ind]
  | .jsr => [.abs]

/-- Some opcode byte stands for this pair. -/
def Entry.legal (e : Entry) : Bool := e.op.modes.contains e.mode

/-- The operand list has exactly the length the entry's mode asks for (30_encoding.md R91). -/
def Draft.countMatches (d : Draft) : Bool := d.operands.length == d.entry.mode.operandBytes

/-- A request the encoder accepts: a legal entry with the right number of operand bytes. -/
def Draft.wellFormed (d : Draft) : Bool := d.entry.legal && d.countMatches

/-- An instruction is well-formed when its pair (op, mode) has an opcode. Every term of `Instr` is: the type has no
constructor for another pair, and no operand value is reserved (30_encoding.md R90). -/
def Instr.wellFormed (i : Instr) : Bool := i.entry.legal

end Sys2Proof
end

