-- ==== Sys2Proof/Decode.lean ====
section
/-! DEFINITION. The opcode table (30_encoding.md rule R87), the decoder (R84), the encoder (R91) and the bytes between them.
The byte values, lengths and base cycle counts are the spec's decision D1, the published NMOS 6502 matrix. -/

namespace Sys2Proof

/-! ### Byte order (20_memory.md rule R57: low byte first) -/

/-- `{hi, lo}`: the 16-bit value of two bytes, the low one given first, as SIM writes it, `lo | (hi << 8)` (R136). -/
def word16 (lo hi : Byte) : Addr := lo.setWidth 16 ||| (hi.setWidth 16 <<< 8)

/-- `w[7:0]`. -/
def lowByte (w : Addr) : Byte := w.extractLsb' 0 8

/-- `w[15:8]`. -/
def highByte (w : Addr) : Byte := w.extractLsb' 8 8

/-! ### The opcode table, one line per opcode byte -/

/-- An opcode byte and its base cycle count. -/
structure Coding where
  opcode : Byte
  cycles : Nat
  deriving DecidableEq, Repr

/-- The opcode byte and base cycles of each row (30_encoding.md R87: `byte mode length/cycles`). -/
def Instr.coding : Instr → Coding
  | .ldaImm _ => ⟨0xA9, 2⟩
  | .ldaZp _ => ⟨0xA5, 3⟩
  | .ldaZpx _ => ⟨0xB5, 4⟩
  | .ldaAbs _ => ⟨0xAD, 4⟩
  | .ldaAbx _ => ⟨0xBD, 4⟩
  | .ldaAby _ => ⟨0xB9, 4⟩
  | .ldaIzx _ => ⟨0xA1, 6⟩
  | .ldaIzy _ => ⟨0xB1, 5⟩
  | .ldxImm _ => ⟨0xA2, 2⟩
  | .ldxZp _ => ⟨0xA6, 3⟩
  | .ldxZpy _ => ⟨0xB6, 4⟩
  | .ldxAbs _ => ⟨0xAE, 4⟩
  | .ldxAby _ => ⟨0xBE, 4⟩
  | .ldyImm _ => ⟨0xA0, 2⟩
  | .ldyZp _ => ⟨0xA4, 3⟩
  | .ldyZpx _ => ⟨0xB4, 4⟩
  | .ldyAbs _ => ⟨0xAC, 4⟩
  | .ldyAbx _ => ⟨0xBC, 4⟩
  | .staZp _ => ⟨0x85, 3⟩
  | .staZpx _ => ⟨0x95, 4⟩
  | .staAbs _ => ⟨0x8D, 4⟩
  | .staAbx _ => ⟨0x9D, 5⟩
  | .staAby _ => ⟨0x99, 5⟩
  | .staIzx _ => ⟨0x81, 6⟩
  | .staIzy _ => ⟨0x91, 6⟩
  | .stxZp _ => ⟨0x86, 3⟩
  | .stxZpy _ => ⟨0x96, 4⟩
  | .stxAbs _ => ⟨0x8E, 4⟩
  | .styZp _ => ⟨0x84, 3⟩
  | .styZpx _ => ⟨0x94, 4⟩
  | .styAbs _ => ⟨0x8C, 4⟩
  | .adcImm _ => ⟨0x69, 2⟩
  | .adcZp _ => ⟨0x65, 3⟩
  | .adcZpx _ => ⟨0x75, 4⟩
  | .adcAbs _ => ⟨0x6D, 4⟩
  | .adcAbx _ => ⟨0x7D, 4⟩
  | .adcAby _ => ⟨0x79, 4⟩
  | .adcIzx _ => ⟨0x61, 6⟩
  | .adcIzy _ => ⟨0x71, 5⟩
  | .andImm _ => ⟨0x29, 2⟩
  | .andZp _ => ⟨0x25, 3⟩
  | .andZpx _ => ⟨0x35, 4⟩
  | .andAbs _ => ⟨0x2D, 4⟩
  | .andAbx _ => ⟨0x3D, 4⟩
  | .andAby _ => ⟨0x39, 4⟩
  | .andIzx _ => ⟨0x21, 6⟩
  | .andIzy _ => ⟨0x31, 5⟩
  | .bitZp _ => ⟨0x24, 3⟩
  | .bitAbs _ => ⟨0x2C, 4⟩
  | .aslAcc => ⟨0x0A, 2⟩
  | .aslZp _ => ⟨0x06, 5⟩
  | .aslZpx _ => ⟨0x16, 6⟩
  | .aslAbs _ => ⟨0x0E, 6⟩
  | .aslAbx _ => ⟨0x1E, 7⟩
  | .incZp _ => ⟨0xE6, 5⟩
  | .incZpx _ => ⟨0xF6, 6⟩
  | .incAbs _ => ⟨0xEE, 6⟩
  | .incAbx _ => ⟨0xFE, 7⟩
  | .decZp _ => ⟨0xC6, 5⟩
  | .decZpx _ => ⟨0xD6, 6⟩
  | .decAbs _ => ⟨0xCE, 6⟩
  | .decAbx _ => ⟨0xDE, 7⟩
  | .inx => ⟨0xE8, 2⟩
  | .iny => ⟨0xC8, 2⟩
  | .dex => ⟨0xCA, 2⟩
  | .dey => ⟨0x88, 2⟩
  | .cmpImm _ => ⟨0xC9, 2⟩
  | .cmpZp _ => ⟨0xC5, 3⟩
  | .cmpZpx _ => ⟨0xD5, 4⟩
  | .cmpAbs _ => ⟨0xCD, 4⟩
  | .cmpAbx _ => ⟨0xDD, 4⟩
  | .cmpAby _ => ⟨0xD9, 4⟩
  | .cmpIzx _ => ⟨0xC1, 6⟩
  | .cmpIzy _ => ⟨0xD1, 5⟩
  | .cpxImm _ => ⟨0xE0, 2⟩
  | .cpxZp _ => ⟨0xE4, 3⟩
  | .cpxAbs _ => ⟨0xEC, 4⟩
  | .cpyImm _ => ⟨0xC0, 2⟩
  | .cpyZp _ => ⟨0xC4, 3⟩
  | .cpyAbs _ => ⟨0xCC, 4⟩
  | .bpl _ => ⟨0x10, 2⟩
  | .bmi _ => ⟨0x30, 2⟩
  | .bvc _ => ⟨0x50, 2⟩
  | .bvs _ => ⟨0x70, 2⟩
  | .bcc _ => ⟨0x90, 2⟩
  | .bcs _ => ⟨0xB0, 2⟩
  | .bne _ => ⟨0xD0, 2⟩
  | .beq _ => ⟨0xF0, 2⟩
  | .jmpAbs _ => ⟨0x4C, 3⟩
  | .jmpInd _ => ⟨0x6C, 5⟩
  | .oraImm _ => ⟨0x09, 2⟩
  | .oraZp _ => ⟨0x05, 3⟩
  | .oraZpx _ => ⟨0x15, 4⟩
  | .oraAbs _ => ⟨0x0D, 4⟩
  | .oraAbx _ => ⟨0x1D, 4⟩
  | .oraAby _ => ⟨0x19, 4⟩
  | .oraIzx _ => ⟨0x01, 6⟩
  | .oraIzy _ => ⟨0x11, 5⟩
  | .eorImm _ => ⟨0x49, 2⟩
  | .eorZp _ => ⟨0x45, 3⟩
  | .eorZpx _ => ⟨0x55, 4⟩
  | .eorAbs _ => ⟨0x4D, 4⟩
  | .eorAbx _ => ⟨0x5D, 4⟩
  | .eorAby _ => ⟨0x59, 4⟩
  | .eorIzx _ => ⟨0x41, 6⟩
  | .eorIzy _ => ⟨0x51, 5⟩
  | .sbcImm _ => ⟨0xE9, 2⟩
  | .sbcZp _ => ⟨0xE5, 3⟩
  | .sbcZpx _ => ⟨0xF5, 4⟩
  | .sbcAbs _ => ⟨0xED, 4⟩
  | .sbcAbx _ => ⟨0xFD, 4⟩
  | .sbcAby _ => ⟨0xF9, 4⟩
  | .sbcIzx _ => ⟨0xE1, 6⟩
  | .sbcIzy _ => ⟨0xF1, 5⟩
  | .lsrAcc => ⟨0x4A, 2⟩
  | .lsrZp _ => ⟨0x46, 5⟩
  | .lsrZpx _ => ⟨0x56, 6⟩
  | .lsrAbs _ => ⟨0x4E, 6⟩
  | .lsrAbx _ => ⟨0x5E, 7⟩
  | .rolAcc => ⟨0x2A, 2⟩
  | .rolZp _ => ⟨0x26, 5⟩
  | .rolZpx _ => ⟨0x36, 6⟩
  | .rolAbs _ => ⟨0x2E, 6⟩
  | .rolAbx _ => ⟨0x3E, 7⟩
  | .rorAcc => ⟨0x6A, 2⟩
  | .rorZp _ => ⟨0x66, 5⟩
  | .rorZpx _ => ⟨0x76, 6⟩
  | .rorAbs _ => ⟨0x6E, 6⟩
  | .rorAbx _ => ⟨0x7E, 7⟩
  | .tax => ⟨0xAA, 2⟩
  | .tay => ⟨0xA8, 2⟩
  | .txa => ⟨0x8A, 2⟩
  | .tya => ⟨0x98, 2⟩
  | .tsx => ⟨0xBA, 2⟩
  | .txs => ⟨0x9A, 2⟩
  | .pha => ⟨0x48, 3⟩
  | .pla => ⟨0x68, 4⟩
  | .php => ⟨0x08, 3⟩
  | .plp => ⟨0x28, 4⟩
  | .jsr _ => ⟨0x20, 6⟩
  | .rts => ⟨0x60, 6⟩
  | .rti => ⟨0x40, 6⟩
  | .brk => ⟨0x00, 7⟩
  | .nop => ⟨0xEA, 2⟩
  | .clc => ⟨0x18, 2⟩
  | .sec => ⟨0x38, 2⟩
  | .cli => ⟨0x58, 2⟩
  | .sei => ⟨0x78, 2⟩
  | .clv => ⟨0xB8, 2⟩
  | .cld => ⟨0xD8, 2⟩
  | .sed => ⟨0xF8, 2⟩

/-- The opcode byte (30_encoding.md R87). -/
def Instr.opcode (i : Instr) : Byte := i.coding.opcode

/-- The base cycle cost (30_encoding.md R87; 70_reset_and_hazards.md R337). -/
def Instr.cycles (i : Instr) : Nat := i.coding.cycles

/-- The length in bytes: one opcode byte and the mode's operand bytes (30_encoding.md R82). -/
def Instr.length (i : Instr) : Nat := 1 + i.entry.mode.operandBytes

/-- The class of an operation (30_encoding.md R88): EXEC where SIM gives it execution semantics. -/
def Op.cls : Op → OpClass
  | .lda | .ldx | .ldy | .sta | .stx | .sty | .adc | .and | .bit | .asl | .inc | .dec | .inx | .iny
  | .dex | .dey | .cmp | .cpx | .cpy | .bpl | .bmi | .bvc | .bvs | .bcc | .bcs | .bne | .beq | .jmp => .exec
  | .ora | .eor | .sbc | .lsr | .rol | .ror | .tax | .tay | .txa | .tya | .tsx | .txs | .pha | .pla
  | .php | .plp | .jsr | .rts | .rti | .brk | .nop | .clc | .sec | .cli | .sei | .clv | .cld | .sed => .decodeOnly

/-- The class of an instruction. -/
def Instr.cls (i : Instr) : OpClass := i.entry.op.cls

/-- The descriptor of an instruction's opcode (30_encoding.md R85). -/
def Instr.descriptor (i : Instr) : Descriptor :=
  { op := i.entry.op, mode := i.entry.mode, length := i.length, cycles := i.cycles, cls := i.cls }

/-- The operand bytes in storage order (30_encoding.md R83, R91). -/
def Instr.operands : Instr → List Byte
  | .aslAcc | .inx | .iny | .dex | .dey | .lsrAcc | .rolAcc | .rorAcc
  | .tax | .tay | .txa | .tya | .tsx | .txs | .pha | .pla
  | .php | .plp | .rts | .rti | .brk | .nop | .clc | .sec
  | .cli | .sei | .clv | .cld | .sed => []
  | .ldaImm b | .ldaZp b | .ldaZpx b | .ldaIzx b | .ldaIzy b | .ldxImm b | .ldxZp b | .ldxZpy b
  | .ldyImm b | .ldyZp b | .ldyZpx b | .staZp b | .staZpx b | .staIzx b | .staIzy b | .stxZp b
  | .stxZpy b | .styZp b | .styZpx b | .adcImm b | .adcZp b | .adcZpx b | .adcIzx b | .adcIzy b
  | .andImm b | .andZp b | .andZpx b | .andIzx b | .andIzy b | .bitZp b | .aslZp b | .aslZpx b
  | .incZp b | .incZpx b | .decZp b | .decZpx b | .cmpImm b | .cmpZp b | .cmpZpx b | .cmpIzx b
  | .cmpIzy b | .cpxImm b | .cpxZp b | .cpyImm b | .cpyZp b | .bpl b | .bmi b | .bvc b
  | .bvs b | .bcc b | .bcs b | .bne b | .beq b | .oraImm b | .oraZp b | .oraZpx b
  | .oraIzx b | .oraIzy b | .eorImm b | .eorZp b | .eorZpx b | .eorIzx b | .eorIzy b | .sbcImm b
  | .sbcZp b | .sbcZpx b | .sbcIzx b | .sbcIzy b | .lsrZp b | .lsrZpx b | .rolZp b | .rolZpx b
  | .rorZp b | .rorZpx b => [b]
  | .ldaAbs w | .ldaAbx w | .ldaAby w | .ldxAbs w | .ldxAby w | .ldyAbs w | .ldyAbx w | .staAbs w
  | .staAbx w | .staAby w | .stxAbs w | .styAbs w | .adcAbs w | .adcAbx w | .adcAby w | .andAbs w
  | .andAbx w | .andAby w | .bitAbs w | .aslAbs w | .aslAbx w | .incAbs w | .incAbx w | .decAbs w
  | .decAbx w | .cmpAbs w | .cmpAbx w | .cmpAby w | .cpxAbs w | .cpyAbs w | .jmpAbs w | .jmpInd w
  | .oraAbs w | .oraAbx w | .oraAby w | .eorAbs w | .eorAbx w | .eorAby w | .sbcAbs w | .sbcAbx w
  | .sbcAby w | .lsrAbs w | .lsrAbx w | .rolAbs w | .rolAbx w | .rorAbs w | .rorAbx w | .jsr w => [lowByte w, highByte w]

/-! ### The decoder -/

/-- The decoder on an opcode byte and the two bytes after it, of which it takes as many as the mode has operand bytes.
`none` is `Unknown`: the 105 illegal bytes (30_encoding.md R84, R89). The arms follow the grid of R87 row by row. -/
def decodeAt (b0 b1 b2 : Byte) : Option Instr :=
  match b0.toNat with
  | 0x00 => some .brk
  | 0x01 => some (.oraIzx b1)
  | 0x05 => some (.oraZp b1)
  | 0x06 => some (.aslZp b1)
  | 0x08 => some .php
  | 0x09 => some (.oraImm b1)
  | 0x0A => some .aslAcc
  | 0x0D => some (.oraAbs (word16 b1 b2))
  | 0x0E => some (.aslAbs (word16 b1 b2))
  | 0x10 => some (.bpl b1)
  | 0x11 => some (.oraIzy b1)
  | 0x15 => some (.oraZpx b1)
  | 0x16 => some (.aslZpx b1)
  | 0x18 => some .clc
  | 0x19 => some (.oraAby (word16 b1 b2))
  | 0x1D => some (.oraAbx (word16 b1 b2))
  | 0x1E => some (.aslAbx (word16 b1 b2))
  | 0x20 => some (.jsr (word16 b1 b2))
  | 0x21 => some (.andIzx b1)
  | 0x24 => some (.bitZp b1)
  | 0x25 => some (.andZp b1)
  | 0x26 => some (.rolZp b1)
  | 0x28 => some .plp
  | 0x29 => some (.andImm b1)
  | 0x2A => some .rolAcc
  | 0x2C => some (.bitAbs (word16 b1 b2))
  | 0x2D => some (.andAbs (word16 b1 b2))
  | 0x2E => some (.rolAbs (word16 b1 b2))
  | 0x30 => some (.bmi b1)
  | 0x31 => some (.andIzy b1)
  | 0x35 => some (.andZpx b1)
  | 0x36 => some (.rolZpx b1)
  | 0x38 => some .sec
  | 0x39 => some (.andAby (word16 b1 b2))
  | 0x3D => some (.andAbx (word16 b1 b2))
  | 0x3E => some (.rolAbx (word16 b1 b2))
  | 0x40 => some .rti
  | 0x41 => some (.eorIzx b1)
  | 0x45 => some (.eorZp b1)
  | 0x46 => some (.lsrZp b1)
  | 0x48 => some .pha
  | 0x49 => some (.eorImm b1)
  | 0x4A => some .lsrAcc
  | 0x4C => some (.jmpAbs (word16 b1 b2))
  | 0x4D => some (.eorAbs (word16 b1 b2))
  | 0x4E => some (.lsrAbs (word16 b1 b2))
  | 0x50 => some (.bvc b1)
  | 0x51 => some (.eorIzy b1)
  | 0x55 => some (.eorZpx b1)
  | 0x56 => some (.lsrZpx b1)
  | 0x58 => some .cli
  | 0x59 => some (.eorAby (word16 b1 b2))
  | 0x5D => some (.eorAbx (word16 b1 b2))
  | 0x5E => some (.lsrAbx (word16 b1 b2))
  | 0x60 => some .rts
  | 0x61 => some (.adcIzx b1)
  | 0x65 => some (.adcZp b1)
  | 0x66 => some (.rorZp b1)
  | 0x68 => some .pla
  | 0x69 => some (.adcImm b1)
  | 0x6A => some .rorAcc
  | 0x6C => some (.jmpInd (word16 b1 b2))
  | 0x6D => some (.adcAbs (word16 b1 b2))
  | 0x6E => some (.rorAbs (word16 b1 b2))
  | 0x70 => some (.bvs b1)
  | 0x71 => some (.adcIzy b1)
  | 0x75 => some (.adcZpx b1)
  | 0x76 => some (.rorZpx b1)
  | 0x78 => some .sei
  | 0x79 => some (.adcAby (word16 b1 b2))
  | 0x7D => some (.adcAbx (word16 b1 b2))
  | 0x7E => some (.rorAbx (word16 b1 b2))
  | 0x81 => some (.staIzx b1)
  | 0x84 => some (.styZp b1)
  | 0x85 => some (.staZp b1)
  | 0x86 => some (.stxZp b1)
  | 0x88 => some .dey
  | 0x8A => some .txa
  | 0x8C => some (.styAbs (word16 b1 b2))
  | 0x8D => some (.staAbs (word16 b1 b2))
  | 0x8E => some (.stxAbs (word16 b1 b2))
  | 0x90 => some (.bcc b1)
  | 0x91 => some (.staIzy b1)
  | 0x94 => some (.styZpx b1)
  | 0x95 => some (.staZpx b1)
  | 0x96 => some (.stxZpy b1)
  | 0x98 => some .tya
  | 0x99 => some (.staAby (word16 b1 b2))
  | 0x9A => some .txs
  | 0x9D => some (.staAbx (word16 b1 b2))
  | 0xA0 => some (.ldyImm b1)
  | 0xA1 => some (.ldaIzx b1)
  | 0xA2 => some (.ldxImm b1)
  | 0xA4 => some (.ldyZp b1)
  | 0xA5 => some (.ldaZp b1)
  | 0xA6 => some (.ldxZp b1)
  | 0xA8 => some .tay
  | 0xA9 => some (.ldaImm b1)
  | 0xAA => some .tax
  | 0xAC => some (.ldyAbs (word16 b1 b2))
  | 0xAD => some (.ldaAbs (word16 b1 b2))
  | 0xAE => some (.ldxAbs (word16 b1 b2))
  | 0xB0 => some (.bcs b1)
  | 0xB1 => some (.ldaIzy b1)
  | 0xB4 => some (.ldyZpx b1)
  | 0xB5 => some (.ldaZpx b1)
  | 0xB6 => some (.ldxZpy b1)
  | 0xB8 => some .clv
  | 0xB9 => some (.ldaAby (word16 b1 b2))
  | 0xBA => some .tsx
  | 0xBC => some (.ldyAbx (word16 b1 b2))
  | 0xBD => some (.ldaAbx (word16 b1 b2))
  | 0xBE => some (.ldxAby (word16 b1 b2))
  | 0xC0 => some (.cpyImm b1)
  | 0xC1 => some (.cmpIzx b1)
  | 0xC4 => some (.cpyZp b1)
  | 0xC5 => some (.cmpZp b1)
  | 0xC6 => some (.decZp b1)
  | 0xC8 => some .iny
  | 0xC9 => some (.cmpImm b1)
  | 0xCA => some .dex
  | 0xCC => some (.cpyAbs (word16 b1 b2))
  | 0xCD => some (.cmpAbs (word16 b1 b2))
  | 0xCE => some (.decAbs (word16 b1 b2))
  | 0xD0 => some (.bne b1)
  | 0xD1 => some (.cmpIzy b1)
  | 0xD5 => some (.cmpZpx b1)
  | 0xD6 => some (.decZpx b1)
  | 0xD8 => some .cld
  | 0xD9 => some (.cmpAby (word16 b1 b2))
  | 0xDD => some (.cmpAbx (word16 b1 b2))
  | 0xDE => some (.decAbx (word16 b1 b2))
  | 0xE0 => some (.cpxImm b1)
  | 0xE1 => some (.sbcIzx b1)
  | 0xE4 => some (.cpxZp b1)
  | 0xE5 => some (.sbcZp b1)
  | 0xE6 => some (.incZp b1)
  | 0xE8 => some .inx
  | 0xE9 => some (.sbcImm b1)
  | 0xEA => some .nop
  | 0xEC => some (.cpxAbs (word16 b1 b2))
  | 0xED => some (.sbcAbs (word16 b1 b2))
  | 0xEE => some (.incAbs (word16 b1 b2))
  | 0xF0 => some (.beq b1)
  | 0xF1 => some (.sbcIzy b1)
  | 0xF5 => some (.sbcZpx b1)
  | 0xF6 => some (.incZpx b1)
  | 0xF8 => some .sed
  | 0xF9 => some (.sbcAby (word16 b1 b2))
  | 0xFD => some (.sbcAbx (word16 b1 b2))
  | 0xFE => some (.incAbx (word16 b1 b2))
  | _ => none

/-- `Decode(b)` of 30_encoding.md R84: `some` is `Known(descriptor)`, `none` is `Unknown`. -/
def decodeByte (b : Byte) : Option Descriptor := (decodeAt b 0 0).map Instr.descriptor

/-- Why a byte list is not an instruction. -/
inductive DecodeError where
  /-- There is no byte. -/
  | empty
  /-- The first byte is one of the 105 illegal ones (30_encoding.md R89). -/
  | unknownOpcode (b : Byte)
  /-- The list ends before the instruction does; storage never does, since its addresses wrap (log entry 10). -/
  | truncated (needed got : Nat)
  deriving DecidableEq, Repr

/-- The decoder on a byte list: the instruction at its head and the bytes after it, or a rejection by name. -/
def decode : List Byte → Except DecodeError (Instr × List Byte)
  | [] => .error .empty
  | b0 :: rest =>
    match decodeAt b0 (rest.getD 0 0) (rest.getD 1 0) with
    | none => .error (.unknownOpcode b0)
    | some i =>
      if rest.length < i.entry.mode.operandBytes then .error (.truncated i.length (rest.length + 1))
      else .ok (i, rest.drop i.entry.mode.operandBytes)

/-- The instruction the decoder reads from an instruction whose bits are `w`, first byte lowest, all bits from `nbits` up
being 0 (the host's numbering of spec/opcode_table.json). -/
def decodeTableWord (nbits w : Nat) : Option Instr :=
  let v := w % 2 ^ nbits
  match decode [BitVec.ofNat 8 v, BitVec.ofNat 8 (v / 2 ^ 8), BitVec.ofNat 8 (v / 2 ^ 16)] with
  | .ok (i, _) => some i
  | .error _ => none

/-! ### The encoder -/

/-- The bytes of an instruction: the opcode byte, then the operand bytes (30_encoding.md R80, R91). -/
def encode (i : Instr) : List Byte := i.opcode :: i.operands

/-- One row of the opcode table: an opcode byte and its descriptor (30_encoding.md R87). -/
structure TableRow where
  opcode     : Byte
  descriptor : Descriptor
  deriving DecidableEq, Repr

/-- The table's entry (op, mode). -/
def TableRow.entry (r : TableRow) : Entry := ⟨r.descriptor.op, r.descriptor.mode⟩

/-- The opcode table as a list, sorted by byte (30_encoding.md R87). -/
def opcodeTable : List TableRow :=
  (List.range 256).filterMap fun n =>
    (decodeByte (BitVec.ofNat 8 n)).map fun d => ⟨BitVec.ofNat 8 n, d⟩

/-- What `Encode` returns: the entry's descriptor with the operand bytes attached (30_encoding.md R91). -/
structure Encoded where
  row      : TableRow
  operands : List Byte
  deriving DecidableEq, Repr

/-- The instruction's bytes: the opcode byte followed by the operand bytes in list order (30_encoding.md R91). -/
def Encoded.bytes (e : Encoded) : List Byte := e.row.opcode :: e.operands

/-- Why `Encode` fails. -/
inductive EncodeError where
  /-- The operand list has the wrong length (30_encoding.md R91; 60_exceptions.md R300). -/
  | operandCountMismatch (expected got : Nat)
  /-- No row of the table has this pair (40_step_and_addressing.md R145; log entry 11). -/
  | noSuchEntry
  deriving DecidableEq, Repr

/-- `Encode(entry, operands)` on a row of the table (30_encoding.md R91). -/
def encodeRow (r : TableRow) (operands : List Byte) : Except EncodeError Encoded :=
  if operands.length = r.descriptor.length - 1 then .ok ⟨r, operands⟩
  else .error (.operandCountMismatch (r.descriptor.length - 1) operands.length)

/-- `Encode` on a draft: its entry's row is looked up in the table. -/
def encodeEntry (d : Draft) : Except EncodeError Encoded :=
  match opcodeTable.find? fun r => r.entry == d.entry with
  | none => .error .noSuchEntry
  | some r => encodeRow r d.operands

/-- The displacement byte of a branch at address `p` whose target is `t`: `(t - (p + 2)) mod 256`, where the distance lies in
-128 to +127 (30_encoding.md R99), the distance taken modulo 65536 as a signed number (log entry 9). -/
def branchOffset (p t : Addr) : Option Byte :=
  let d := t - (p + 2)
  if -128 ≤ d.toInt ∧ d.toInt ≤ 127 then some (lowByte d) else none

end Sys2Proof
end

