-- ==== Sys2Proof/Config.lean ====
section
/-! DEFINITION. The parameters of the core (00_scope.md rule R5) and the address map (20_memory.md rule R52).
The spec's OPEN parameters INIT_A, INIT_X, INIT_Y and MEM_INIT are ARGUMENTS of `State.resetWith` and `State.launch`;
the four values named here are used by `State.reset` alone. -/

namespace Sys2Proof.Config

/-- ROM_BASE: the reset value of PC and the start of the loader's cursor (00_scope.md R5; 10_state.md R25; 20_memory.md R71). -/
def romBase : Addr := 0x8000

/-- MEM_SIZE: the number of storage bytes (00_scope.md R5; 20_memory.md R50). -/
def memSize : Nat := 65536

/-- INIT_A of `State.reset`. DESIGN CHOICE (log entry 1), unsafe: the spec leaves it an argument of reset. -/
def initA : Byte := 0x00

/-- INIT_X of `State.reset`. DESIGN CHOICE (log entry 1), unsafe: the spec leaves it an argument of reset. -/
def initX : Byte := 0x00

/-- INIT_Y of `State.reset`. DESIGN CHOICE (log entry 1), unsafe: the spec leaves it an argument of reset. -/
def initY : Byte := 0x00

/-- What a storage address with no entry reads as. DESIGN CHOICE (log entry 2), unsafe for a statement about
`State.reset` alone: the spec leaves MEM_INIT open. Every MEM_INIT is the memory of some state (`Memory.ofFn`),
so a statement about every state holds for every MEM_INIT. -/
def unlistedByte : Byte := 0x00

/-- The regions of the address map (20_memory.md R52). They are names, not protections (R53). -/
inductive Region where
  | zeroPage | stack | programRam | mmio | programRom | vectors
  deriving DecidableEq, Repr

/-- One row of the address map: first and last address, both inclusive. -/
structure RegionRow where
  region : Region
  first  : Nat
  last   : Nat
  deriving DecidableEq, Repr

/-- The address map, row by row (20_memory.md R52). -/
def addressMap : List RegionRow :=
  [ ⟨.zeroPage,   0x0000, 0x00FF⟩
  , ⟨.stack,      0x0100, 0x01FF⟩
  , ⟨.programRam, 0x0200, 0x3FFF⟩
  , ⟨.mmio,       0x4000, 0x7FFF⟩
  , ⟨.programRom, 0x8000, 0xFFF9⟩
  , ⟨.vectors,    0xFFFA, 0xFFFF⟩ ]

/-- The region an address lies in: the first row of the map that holds it. -/
def regionOf (a : Addr) : Option Region :=
  (addressMap.find? fun r => r.first ≤ a.toNat && a.toNat ≤ r.last).map RegionRow.region

end Sys2Proof.Config
end

