-- ==== Sys2Proof/Machine/State.lean ====
section
/-! DEFINITION. The machine's state (10_state.md rule R20; storage 20_memory.md rule R50; loader cursor R71), its values right
after reset (R42), and the reasons a step can stop (60_exceptions.md rule R300). -/

namespace Sys2Proof.Machine

/-- The seven independent flags (10_state.md R27). B, D and I are inert (R30 to R32). -/
structure Flags where
  n : Bool
  v : Bool
  b : Bool
  d : Bool
  i : Bool
  z : Bool
  c : Bool
  deriving DecidableEq, Repr

/-- Storage as a list of (address, byte): canonical form `Memory.wf` (Machine/Ops.lean). An address with no entry reads as
`Config.unlistedByte` (log entry 2). -/
abbrev Memory := List Host.Cell

/-- The state of the core and its storage. Nothing else persists between steps (10_state.md R20, R37 to R39). -/
structure State where
  /-- The accumulator (R21). -/
  a : Byte
  /-- Index register X (R22). -/
  x : Byte
  /-- Index register Y (R23). -/
  y : Byte
  /-- The program counter (R25). -/
  pc : Addr
  /-- The held opcode byte (R26). -/
  ir : Byte
  /-- The flags (R27 to R34). -/
  flags : Flags
  /-- The cycle counter CYC (R36). -/
  cyc : CycleCount
  /-- The 65536 bytes of storage (20_memory.md R50, R51). -/
  mem : Memory
  /-- The loader's cursor, part of storage (20_memory.md R71; log entry 4). -/
  cursor : Addr
  deriving DecidableEq, Repr

/-- Why a step faults. The list is complete (60_exceptions.md R300); in both cases the step changes IR and nothing else
(`State.afterStep`, log entry 5), and the next step may be attempted (R303). -/
inductive Fault where
  /-- Raised by `step` when the byte at PC is one of the 105 illegal ones (60_exceptions.md R301). Safe: the core itself
  ends the step in this fault. -/
  | unknownOpcode (b : Byte) (pc : Addr)
  /-- Raised by the meaning of each of the 61 DECODE_ONLY opcodes (60_exceptions.md R302, 46_decode_only.md R250). Safe: the
  core itself ends the step in this fault. -/
  | unimplementedOperation (op : Op) (mode : Mode) (pc : Addr)
  deriving DecidableEq, Repr

/-- Why something is refused. No step of this model refuses. -/
inductive Refusal where
  /-- Raised by an arm of `exec` whose instruction has no meaning yet: none in this model. Safe. -/
  | notModelled (mnemonic : String)
  /-- Raised by the host's `load_sequential` when it would move the cursor past 0xFFFF (20_memory.md R71, decision D19); never by
  a step. Safe: the spec says the host must not make the load. -/
  | loadPastTop (cursor : Addr) (length : Nat)
  deriving DecidableEq, Repr

/-- All flags false (10_state.md R27, R42). -/
def Flags.clear : Flags :=
  { n := false, v := false, b := false, d := false, i := false, z := false, c := false }

/-- The machine right after reset (10_state.md R42; 70_reset_and_hazards.md R330), storage as if nothing was ever placed in it.
A, X, Y and what storage holds are the named values of log entries 1 and 2; `State.resetWith` and `State.launch` take the
spec's arguments instead. -/
def State.reset : State where
  a := Config.initA
  x := Config.initX
  y := Config.initY
  pc := Config.romBase
  ir := 0x00
  flags := Flags.clear
  cyc := 0
  mem := []
  cursor := Config.romBase

end Sys2Proof.Machine
end

