-- ==== Sys2Proof/Machine/Ops.lean ====
section
/-! DEFINITION. The named operations over storage and registers: the storage port (20_memory.md rule R51), the register file and
program-counter incrementer (10_state.md), the end of a completed step (40_step_and_addressing.md rules R125, R126) and raising a
fault (60_exceptions.md rules R301, R302, R307). -/

namespace Sys2Proof.Machine

/-- What a meaning answers. -/
abbrev Result := Host.Outcome State Fault Refusal

/-! ### Storage -/

/-- The byte an address holds: its entry, or what an unlisted address reads as (20_memory.md R51). -/
def Memory.read : Memory → Nat → Byte
  | [], _ => Config.unlistedByte
  | (k, v) :: rest, a => if k = a then v else Memory.read rest a

/-- The memory without any entry for `a`. -/
def Memory.erase : Memory → Nat → Memory
  | [], _ => []
  | (k, v) :: rest, a => if k = a then Memory.erase rest a else (k, v) :: Memory.erase rest a

/-- The memory with an entry for `a` put in address order. -/
def Memory.insert : Memory → Nat → Byte → Memory
  | [], a, v => [(a, v)]
  | (k, w) :: rest, a, v => if a < k then (a, v) :: (k, w) :: rest else (k, w) :: Memory.insert rest a v

/-- Replace the byte at `a` (20_memory.md R51). Writing what an unlisted address reads as removes the entry. -/
def Memory.write (m : Memory) (a : Nat) (v : Byte) : Memory :=
  if v = Config.unlistedByte then Memory.erase m a else Memory.insert (Memory.erase m a) a v

/-- Addresses strictly rising from `lo` and inside the space, no entry equal to what an unlisted address reads as. -/
def Memory.wfFrom : Nat → Memory → Bool
  | _, [] => true
  | lo, (k, v) :: rest =>
    decide (lo ≤ k) && decide (k < Config.memSize) && (v != Config.unlistedByte) && Memory.wfFrom (k + 1) rest

/-- The canonical form: two memories in it are equal exactly when every address reads the same. -/
def Memory.wf (m : Memory) : Bool := Memory.wfFrom 0 m

/-- The canonical memory that reads `f a` at every address from `lo` on, for `n` addresses. -/
def Memory.ofFnFrom (f : Addr → Byte) : Nat → Nat → Memory
  | _, 0 => []
  | lo, n + 1 =>
    if f (BitVec.ofNat 16 lo) = Config.unlistedByte then Memory.ofFnFrom f (lo + 1) n
    else (lo, f (BitVec.ofNat 16 lo)) :: Memory.ofFnFrom f (lo + 1) n

/-- Storage holding any contents the host likes: MEM_INIT (20_memory.md R70). -/
def Memory.ofFn (f : Addr → Byte) : Memory := Memory.ofFnFrom f 0 Config.memSize

/-- `MemRead(addr, 1)`: always succeeds, no side effect (20_memory.md R51). -/
def State.read (s : State) (a : Addr) : Byte := s.mem.read a.toNat

/-- `MemWrite(addr, 1, v)`: always succeeds, in every region (20_memory.md R51, R53). -/
def State.write (s : State) (a : Addr) (v : Byte) : State := { s with mem := s.mem.write a.toNat v }

/-! ### Registers (10_state.md rules R21 to R26): one home each, written here -/

def State.setA (s : State) (v : Byte) : State := { s with a := v }
def State.setX (s : State) (v : Byte) : State := { s with x := v }
def State.setY (s : State) (v : Byte) : State := { s with y := v }
def State.setPc (s : State) (v : Addr) : State := { s with pc := v }
def State.setIr (s : State) (v : Byte) : State := { s with ir := v }
def State.setFlags (s : State) (f : Flags) : State := { s with flags := f }
def State.setCursor (s : State) (v : Addr) : State := { s with cursor := v }

/-- `PC <- PC +16 n` (40_step_and_addressing.md R125). -/
def State.advancePc (s : State) (n : Nat) : State := { s with pc := s.pc + BitVec.ofNat 16 n }

/-- `CYC <- (CYC + n) mod 2^64` (40_step_and_addressing.md R126; 10_state.md R36). -/
def State.addCycles (s : State) (n : Nat) : State := { s with cyc := s.cyc + BitVec.ofNat 64 n }

/-! ### Fetching (40_step_and_addressing.md rules R121, R122) -/

/-- `operand(k) = MemRead(PC +16 k, 1)` (30_encoding.md R83); `operandByte 0` is the opcode byte. -/
def State.operandByte (s : State) (k : Nat) : Byte := s.read (s.pc + BitVec.ofNat 16 k)

/-- Lines 1 and 2 of the step: `IR <- MemRead(PC, 1)`, before decoding, faulting or not (10_state.md R26). -/
def State.fetchIr (s : State) : State := s.setIr (s.operandByte 0)

/-- The instruction whose bytes stand at PC, `none` for an illegal opcode byte. Bytes past its length are looked at and
dropped: a read has no side effect (20_memory.md R51; log entry 6). -/
def State.fetchDecode (s : State) : Option Instr :=
  decodeAt (s.operandByte 0) (s.operandByte 1) (s.operandByte 2)

/-! ### The end of a step -/

/-- Lines 9 to 11 of the step after `Execute`: every instruction but JMP adds its length to the PC that `Execute` left, every
instruction adds its base cycles (40_step_and_addressing.md R121, R125, R126). -/
def complete (i : Instr) (s : State) : Result :=
  .next ((if i.entry.op = .jmp then s else s.advancePc i.length).addCycles i.cycles)

/-- Raising a fault. The core saves nothing, pushes nothing, changes no flag, reads no vector and transfers control nowhere
(60_exceptions.md R307); there is no return from one (R308). What the step leaves is `State.afterStep`. -/
def raise (f : Fault) : Result := .fault f

/-- `raise UnimplementedOperation(d.op, d.mode, PC)` (60_exceptions.md R302; 46_decode_only.md R250). -/
def unimplemented (i : Instr) (s : State) : Result :=
  raise (.unimplementedOperation i.entry.op i.entry.mode s.pc)

end Sys2Proof.Machine
end

