-- ==== Sys2Proof/Machine/Flags.lean ====
section
/-! DEFINITION. The ALU and the flag generator: every result and flag computation of files 42 to 44 of the spec. A flag not
written in a `with` below is left alone (10_state.md rule R35). -/

namespace Sys2Proof.Machine

/-- Z of a result: `r = 0`. -/
def isZero (r : Byte) : Bool := r == 0

/-- N of a result: bit 7. -/
def isNegative (r : Byte) : Bool := r.getLsbD 7

/-- The exact sum of ADC, 0 to 510: two terms, the carry flag is not read (42_arith_logic.md R180; conflict C1). -/
def adcSum (a0 m : Byte) : Nat := a0.toNat + m.toNat

/-- `sum[7:0]` (R180). -/
def adcResult (a0 m : Byte) : Byte := BitVec.ofNat 8 (adcSum a0 m)

/-- `sum[8]`: 1 iff the unsigned sum is 256 or more (R180). -/
def adcCarry (a0 m : Byte) : Bool := (adcSum a0 m).testBit 8

/-- `((a0 xor r) and (m xor r))[7]`, on the pre-add value of A (R180). -/
def adcOverflow (a0 m : Byte) : Bool :=
  ((a0 ^^^ adcResult a0 m) &&& (m ^^^ adcResult a0 m)).getLsbD 7

/-- ADC writes N, V, Z, C (R180). -/
def Flags.adc (f : Flags) (a0 m : Byte) : Flags :=
  { f with
    n := isNegative (adcResult a0 m)
    v := adcOverflow a0 m
    z := isZero (adcResult a0 m)
    c := adcCarry a0 m }

/-- AND writes N and Z from the new A (R181). -/
def Flags.logic (f : Flags) (r : Byte) : Flags :=
  { f with n := isNegative r, z := isZero r }

/-- BIT writes N and V from bits 7 and 6 of the operand, Z from `A and m` (R182). -/
def Flags.bitTest (f : Flags) (a0 m : Byte) : Flags :=
  { f with n := m.getLsbD 7, v := m.getLsbD 6, z := isZero (a0 &&& m) }

/-- The result of ASL: `{v[6:0], 0}` (43_shift_incdec.md R200). -/
def aslResult (v : Byte) : Byte := v <<< 1

/-- ASL writes C from bit 7 of the pre-shift value, N and Z from the result (R200). -/
def Flags.asl (f : Flags) (v : Byte) : Flags :=
  { f with n := isNegative (aslResult v), z := isZero (aslResult v), c := v.getLsbD 7 }

/-- `Compare(r, m)` writes N from the wrapped difference, Z and C from the unsigned comparison (44_compare.md R220). -/
def Flags.compare (f : Flags) (r m : Byte) : Flags :=
  { f with n := isNegative (r - m), z := r == m, c := decide (m.toNat ≤ r.toNat) }

/-- The customary packed view `{N, V, 1, B, D, I, Z, C}`, read-only, for the host (10_state.md R38, decision D15; log entry 8). -/
def State.packedP (s : State) : Byte :=
  BitVec.ofBool s.flags.n ++ BitVec.ofBool s.flags.v ++ BitVec.ofBool true ++ BitVec.ofBool s.flags.b ++
    BitVec.ofBool s.flags.d ++ BitVec.ofBool s.flags.i ++ BitVec.ofBool s.flags.z ++ BitVec.ofBool s.flags.c

end Sys2Proof.Machine
end

