-- ==== Sys2Proof/Machine/Operands.lean ====
section
/-! DEFINITION. The effective-address calculator: the thirteen addressing modes (40_step_and_addressing.md rules R128 to R142).
It reads X, Y and storage and writes nothing (R124, R144). -/

namespace Sys2Proof.Machine

/-- `zext_16` (00_scope.md R8); `{0x00, n}` is the zero-page address of an 8-bit n (R129). -/
def zext16 (v : Byte) : Addr := v.setWidth 16

/-- `sext_16` (00_scope.md R8). -/
def sext16 (v : Byte) : Addr := v.signExtend 16

/-- ZP (R133). -/
def eaZp (zp8 : Byte) : Addr := zext16 zp8

/-- ZPX (R134): the index addition wraps within page zero. -/
def eaZpx (zp8 : Byte) (s : State) : Addr := zext16 (zp8 + s.x)

/-- ZPY (R135). -/
def eaZpy (zp8 : Byte) (s : State) : Addr := zext16 (zp8 + s.y)

/-- ABS (R136). -/
def eaAbs (addr16 : Addr) : Addr := addr16

/-- ABX (R137): a full 16-bit addition. -/
def eaAbx (addr16 : Addr) (s : State) : Addr := addr16 + zext16 s.x

/-- ABY (R138). -/
def eaAby (addr16 : Addr) (s : State) : Addr := addr16 + zext16 s.y

/-- IND (R139): the two-byte little-endian pointer at `p` and `p +16 1`, with no page-wrap quirk (the spec's decision D6). -/
def eaInd (p : Addr) (s : State) : Addr := word16 (s.read p) (s.read (p + 1))

/-- The 16-bit pointer in the zero-page slots `z` and `(z + 1) mod 256` (R140, R141; the spec's decision D7 for IZY). -/
def zpPointer (z : Byte) (s : State) : Addr := word16 (s.read (zext16 z)) (s.read (zext16 (z + 1)))

/-- IZX (R140): X is added to the pointer's location. -/
def eaIzx (zp8 : Byte) (s : State) : Addr := zpPointer (zp8 + s.x) s

/-- IZY (R141): Y is added to the pointer. -/
def eaIzy (zp8 : Byte) (s : State) : Addr := zpPointer zp8 s + zext16 s.y

/-- What `Resolve` returns (R128). -/
inductive Operand where
  | none
  | regA
  | addr (ea : Addr)
  deriving DecidableEq, Repr

/-- The absolute address in the two operand bytes at PC: `{operand(2), operand(1)}` (R136). -/
def absOperand (s : State) : Addr := word16 (s.operandByte 1) (s.operandByte 2)

/-- `Resolve(mode)` with the operand bytes read from storage at PC (R128 to R142). IMM and REL give the address of the operand
byte itself (R132, R142). -/
def resolve (m : Mode) (s : State) : Operand :=
  match m with
  | .imp => .none
  | .acc => .regA
  | .imm => .addr (s.pc + 1)
  | .zp => .addr (eaZp (s.operandByte 1))
  | .zpx => .addr (eaZpx (s.operandByte 1) s)
  | .zpy => .addr (eaZpy (s.operandByte 1) s)
  | .abs => .addr (eaAbs (absOperand s))
  | .abx => .addr (eaAbx (absOperand s) s)
  | .aby => .addr (eaAby (absOperand s) s)
  | .ind => .addr (eaInd (absOperand s) s)
  | .izx => .addr (eaIzx (s.operandByte 1) s)
  | .izy => .addr (eaIzy (s.operandByte 1) s)
  | .rel => .addr (s.pc + 1)

end Sys2Proof.Machine
end

