-- ==== Sys2Proof/Machine/ArithLogic.lean ====
section
/-! DEFINITION. ADC, AND and BIT (42_arith_logic.md rules R180 to R182). -/

namespace Sys2Proof.Machine

/-- `A <- (A + m) mod 256`, flags N V Z C from the pre-add value of A (R180). -/
def opAdc (m : Byte) (s : State) : State :=
  (s.setFlags (s.flags.adc s.a m)).setA (adcResult s.a m)

/-- `A <- A and m`, flags N Z from the new A (R181). -/
def opAnd (m : Byte) (s : State) : State :=
  (s.setFlags (s.flags.logic (s.a &&& m))).setA (s.a &&& m)

/-- Flags N V Z from `m` and `A and m`; no register is written (R182). -/
def opBit (m : Byte) (s : State) : State := s.setFlags (s.flags.bitTest s.a m)

/-- ADC, IMM: `69` (R180; mode R132). -/
def execAdcImm (imm8 : Byte) (s : State) : Result :=
  complete (.adcImm imm8) (opAdc imm8 s)
/-- ADC, ZP: `65` (R180; mode R133). -/
def execAdcZp (zp8 : Byte) (s : State) : Result :=
  complete (.adcZp zp8) (opAdc (s.read (eaZp zp8)) s)
/-- ADC, ZPX: `75` (R180; mode R134). -/
def execAdcZpx (zp8 : Byte) (s : State) : Result :=
  complete (.adcZpx zp8) (opAdc (s.read (eaZpx zp8 s)) s)
/-- ADC, ABS: `6D` (R180; mode R136). -/
def execAdcAbs (addr16 : Addr) (s : State) : Result :=
  complete (.adcAbs addr16) (opAdc (s.read (eaAbs addr16)) s)
/-- ADC, ABX: `7D` (R180; mode R137). -/
def execAdcAbx (addr16 : Addr) (s : State) : Result :=
  complete (.adcAbx addr16) (opAdc (s.read (eaAbx addr16 s)) s)
/-- ADC, ABY: `79` (R180; mode R138). -/
def execAdcAby (addr16 : Addr) (s : State) : Result :=
  complete (.adcAby addr16) (opAdc (s.read (eaAby addr16 s)) s)
/-- ADC, IZX: `61` (R180; mode R140). -/
def execAdcIzx (zp8 : Byte) (s : State) : Result :=
  complete (.adcIzx zp8) (opAdc (s.read (eaIzx zp8 s)) s)
/-- ADC, IZY: `71` (R180; mode R141). -/
def execAdcIzy (zp8 : Byte) (s : State) : Result :=
  complete (.adcIzy zp8) (opAdc (s.read (eaIzy zp8 s)) s)

/-- AND, IMM: `29` (R181; mode R132). -/
def execAndImm (imm8 : Byte) (s : State) : Result :=
  complete (.andImm imm8) (opAnd imm8 s)
/-- AND, ZP: `25` (R181; mode R133). -/
def execAndZp (zp8 : Byte) (s : State) : Result :=
  complete (.andZp zp8) (opAnd (s.read (eaZp zp8)) s)
/-- AND, ZPX: `35` (R181; mode R134). -/
def execAndZpx (zp8 : Byte) (s : State) : Result :=
  complete (.andZpx zp8) (opAnd (s.read (eaZpx zp8 s)) s)
/-- AND, ABS: `2D` (R181; mode R136). -/
def execAndAbs (addr16 : Addr) (s : State) : Result :=
  complete (.andAbs addr16) (opAnd (s.read (eaAbs addr16)) s)
/-- AND, ABX: `3D` (R181; mode R137). -/
def execAndAbx (addr16 : Addr) (s : State) : Result :=
  complete (.andAbx addr16) (opAnd (s.read (eaAbx addr16 s)) s)
/-- AND, ABY: `39` (R181; mode R138). -/
def execAndAby (addr16 : Addr) (s : State) : Result :=
  complete (.andAby addr16) (opAnd (s.read (eaAby addr16 s)) s)
/-- AND, IZX: `21` (R181; mode R140). -/
def execAndIzx (zp8 : Byte) (s : State) : Result :=
  complete (.andIzx zp8) (opAnd (s.read (eaIzx zp8 s)) s)
/-- AND, IZY: `31` (R181; mode R141). -/
def execAndIzy (zp8 : Byte) (s : State) : Result :=
  complete (.andIzy zp8) (opAnd (s.read (eaIzy zp8 s)) s)

/-- BIT, ZP: `24` (R182; mode R133). -/
def execBitZp (zp8 : Byte) (s : State) : Result :=
  complete (.bitZp zp8) (opBit (s.read (eaZp zp8)) s)
/-- BIT, ABS: `2C` (R182; mode R136). -/
def execBitAbs (addr16 : Addr) (s : State) : Result :=
  complete (.bitAbs addr16) (opBit (s.read (eaAbs addr16)) s)

end Sys2Proof.Machine
end

