-- ==== Sys2Proof/Machine/BranchJump.lean ====
section
/-! DEFINITION. The eight branches and JMP (45_branch_jump.md rules R230 to R239). -/

namespace Sys2Proof.Machine

/-- The execute phase of `Branch(cond)`: `if cond: PC <- PC +16 sext_16(rel8)`; the length 2 is added on top when the step
completes (R230; conflict C2). -/
def opBranch (cond : Bool) (rel8 : Byte) (s : State) : State :=
  if cond then s.setPc (s.pc + sext16 rel8) else s

/-- `PC <- ea`; no length is added afterwards (R239). -/
def opJmp (ea : Addr) (s : State) : State := s.setPc ea

/-- BPL, REL: `10` (R231; mode R142). -/
def execBpl (rel8 : Byte) (s : State) : Result :=
  complete (.bpl rel8) (opBranch (!s.flags.n) rel8 s)

/-- BMI, REL: `30` (R232; mode R142). -/
def execBmi (rel8 : Byte) (s : State) : Result :=
  complete (.bmi rel8) (opBranch s.flags.n rel8 s)

/-- BVC, REL: `50` (R233; mode R142). -/
def execBvc (rel8 : Byte) (s : State) : Result :=
  complete (.bvc rel8) (opBranch (!s.flags.v) rel8 s)

/-- BVS, REL: `70` (R234; mode R142). -/
def execBvs (rel8 : Byte) (s : State) : Result :=
  complete (.bvs rel8) (opBranch s.flags.v rel8 s)

/-- BCC, REL: `90` (R235; mode R142). -/
def execBcc (rel8 : Byte) (s : State) : Result :=
  complete (.bcc rel8) (opBranch (!s.flags.c) rel8 s)

/-- BCS, REL: `B0` (R236; mode R142). -/
def execBcs (rel8 : Byte) (s : State) : Result :=
  complete (.bcs rel8) (opBranch s.flags.c rel8 s)

/-- BNE, REL: `D0` (R237; mode R142). -/
def execBne (rel8 : Byte) (s : State) : Result :=
  complete (.bne rel8) (opBranch (!s.flags.z) rel8 s)

/-- BEQ, REL: `F0` (R238; mode R142). -/
def execBeq (rel8 : Byte) (s : State) : Result :=
  complete (.beq rel8) (opBranch s.flags.z rel8 s)

/-- JMP, ABS: `4C` (R239; mode R136). -/
def execJmpAbs (addr16 : Addr) (s : State) : Result :=
  complete (.jmpAbs addr16) (opJmp (eaAbs addr16) s)
/-- JMP, IND: `6C` (R239; mode R139). -/
def execJmpInd (addr16 : Addr) (s : State) : Result :=
  complete (.jmpInd addr16) (opJmp (eaInd addr16 s) s)

end Sys2Proof.Machine
end

