-- ==== Sys2Proof/Machine/Compare.lean ====
section
/-! DEFINITION. CMP, CPX, CPY (44_compare.md rules R220 to R223). -/

namespace Sys2Proof.Machine

/-- `Compare(A, m)` (R220, R221). -/
def opCmp (m : Byte) (s : State) : State := s.setFlags (s.flags.compare s.a m)

/-- `Compare(X, m)` (R220, R222). -/
def opCpx (m : Byte) (s : State) : State := s.setFlags (s.flags.compare s.x m)

/-- `Compare(Y, m)` (R220, R223). -/
def opCpy (m : Byte) (s : State) : State := s.setFlags (s.flags.compare s.y m)

/-- CMP, IMM: `C9` (R221; mode R132). -/
def execCmpImm (imm8 : Byte) (s : State) : Result :=
  complete (.cmpImm imm8) (opCmp imm8 s)
/-- CMP, ZP: `C5` (R221; mode R133). -/
def execCmpZp (zp8 : Byte) (s : State) : Result :=
  complete (.cmpZp zp8) (opCmp (s.read (eaZp zp8)) s)
/-- CMP, ZPX: `D5` (R221; mode R134). -/
def execCmpZpx (zp8 : Byte) (s : State) : Result :=
  complete (.cmpZpx zp8) (opCmp (s.read (eaZpx zp8 s)) s)
/-- CMP, ABS: `CD` (R221; mode R136). -/
def execCmpAbs (addr16 : Addr) (s : State) : Result :=
  complete (.cmpAbs addr16) (opCmp (s.read (eaAbs addr16)) s)
/-- CMP, ABX: `DD` (R221; mode R137). -/
def execCmpAbx (addr16 : Addr) (s : State) : Result :=
  complete (.cmpAbx addr16) (opCmp (s.read (eaAbx addr16 s)) s)
/-- CMP, ABY: `D9` (R221; mode R138). -/
def execCmpAby (addr16 : Addr) (s : State) : Result :=
  complete (.cmpAby addr16) (opCmp (s.read (eaAby addr16 s)) s)
/-- CMP, IZX: `C1` (R221; mode R140). -/
def execCmpIzx (zp8 : Byte) (s : State) : Result :=
  complete (.cmpIzx zp8) (opCmp (s.read (eaIzx zp8 s)) s)
/-- CMP, IZY: `D1` (R221; mode R141). -/
def execCmpIzy (zp8 : Byte) (s : State) : Result :=
  complete (.cmpIzy zp8) (opCmp (s.read (eaIzy zp8 s)) s)

/-- CPX, IMM: `E0` (R222; mode R132). -/
def execCpxImm (imm8 : Byte) (s : State) : Result :=
  complete (.cpxImm imm8) (opCpx imm8 s)
/-- CPX, ZP: `E4` (R222; mode R133). -/
def execCpxZp (zp8 : Byte) (s : State) : Result :=
  complete (.cpxZp zp8) (opCpx (s.read (eaZp zp8)) s)
/-- CPX, ABS: `EC` (R222; mode R136). -/
def execCpxAbs (addr16 : Addr) (s : State) : Result :=
  complete (.cpxAbs addr16) (opCpx (s.read (eaAbs addr16)) s)

/-- CPY, IMM: `C0` (R223; mode R132). -/
def execCpyImm (imm8 : Byte) (s : State) : Result :=
  complete (.cpyImm imm8) (opCpy imm8 s)
/-- CPY, ZP: `C4` (R223; mode R133). -/
def execCpyZp (zp8 : Byte) (s : State) : Result :=
  complete (.cpyZp zp8) (opCpy (s.read (eaZp zp8)) s)
/-- CPY, ABS: `CC` (R223; mode R136). -/
def execCpyAbs (addr16 : Addr) (s : State) : Result :=
  complete (.cpyAbs addr16) (opCpy (s.read (eaAbs addr16)) s)

end Sys2Proof.Machine
end

