-- ==== Sys2Proof/Machine/DecodeOnly.lean ====
section
/-! DEFINITION. The 61 DECODE_ONLY opcodes (46_decode_only.md rules R250 to R278): the spec gives them no execution semantics and has
the step fault with `UnimplementedOperation(op, mode, PC)`; only IR, written before decoding, has changed. -/

namespace Sys2Proof.Machine

/-- ORA, IMM: `09` (R251; mode R132). -/
def execOraImm (imm8 : Byte) (s : State) : Result :=
  unimplemented (.oraImm imm8) s
/-- ORA, ZP: `05` (R251; mode R133). -/
def execOraZp (zp8 : Byte) (s : State) : Result :=
  unimplemented (.oraZp zp8) s
/-- ORA, ZPX: `15` (R251; mode R134). -/
def execOraZpx (zp8 : Byte) (s : State) : Result :=
  unimplemented (.oraZpx zp8) s
/-- ORA, ABS: `0D` (R251; mode R136). -/
def execOraAbs (addr16 : Addr) (s : State) : Result :=
  unimplemented (.oraAbs addr16) s
/-- ORA, ABX: `1D` (R251; mode R137). -/
def execOraAbx (addr16 : Addr) (s : State) : Result :=
  unimplemented (.oraAbx addr16) s
/-- ORA, ABY: `19` (R251; mode R138). -/
def execOraAby (addr16 : Addr) (s : State) : Result :=
  unimplemented (.oraAby addr16) s
/-- ORA, IZX: `01` (R251; mode R140). -/
def execOraIzx (zp8 : Byte) (s : State) : Result :=
  unimplemented (.oraIzx zp8) s
/-- ORA, IZY: `11` (R251; mode R141). -/
def execOraIzy (zp8 : Byte) (s : State) : Result :=
  unimplemented (.oraIzy zp8) s

/-- EOR, IMM: `49` (R252; mode R132). -/
def execEorImm (imm8 : Byte) (s : State) : Result :=
  unimplemented (.eorImm imm8) s
/-- EOR, ZP: `45` (R252; mode R133). -/
def execEorZp (zp8 : Byte) (s : State) : Result :=
  unimplemented (.eorZp zp8) s
/-- EOR, ZPX: `55` (R252; mode R134). -/
def execEorZpx (zp8 : Byte) (s : State) : Result :=
  unimplemented (.eorZpx zp8) s
/-- EOR, ABS: `4D` (R252; mode R136). -/
def execEorAbs (addr16 : Addr) (s : State) : Result :=
  unimplemented (.eorAbs addr16) s
/-- EOR, ABX: `5D` (R252; mode R137). -/
def execEorAbx (addr16 : Addr) (s : State) : Result :=
  unimplemented (.eorAbx addr16) s
/-- EOR, ABY: `59` (R252; mode R138). -/
def execEorAby (addr16 : Addr) (s : State) : Result :=
  unimplemented (.eorAby addr16) s
/-- EOR, IZX: `41` (R252; mode R140). -/
def execEorIzx (zp8 : Byte) (s : State) : Result :=
  unimplemented (.eorIzx zp8) s
/-- EOR, IZY: `51` (R252; mode R141). -/
def execEorIzy (zp8 : Byte) (s : State) : Result :=
  unimplemented (.eorIzy zp8) s

/-- SBC, IMM: `E9` (R253; mode R132). -/
def execSbcImm (imm8 : Byte) (s : State) : Result :=
  unimplemented (.sbcImm imm8) s
/-- SBC, ZP: `E5` (R253; mode R133). -/
def execSbcZp (zp8 : Byte) (s : State) : Result :=
  unimplemented (.sbcZp zp8) s
/-- SBC, ZPX: `F5` (R253; mode R134). -/
def execSbcZpx (zp8 : Byte) (s : State) : Result :=
  unimplemented (.sbcZpx zp8) s
/-- SBC, ABS: `ED` (R253; mode R136). -/
def execSbcAbs (addr16 : Addr) (s : State) : Result :=
  unimplemented (.sbcAbs addr16) s
/-- SBC, ABX: `FD` (R253; mode R137). -/
def execSbcAbx (addr16 : Addr) (s : State) : Result :=
  unimplemented (.sbcAbx addr16) s
/-- SBC, ABY: `F9` (R253; mode R138). -/
def execSbcAby (addr16 : Addr) (s : State) : Result :=
  unimplemented (.sbcAby addr16) s
/-- SBC, IZX: `E1` (R253; mode R140). -/
def execSbcIzx (zp8 : Byte) (s : State) : Result :=
  unimplemented (.sbcIzx zp8) s
/-- SBC, IZY: `F1` (R253; mode R141). -/
def execSbcIzy (zp8 : Byte) (s : State) : Result :=
  unimplemented (.sbcIzy zp8) s

/-- LSR, ACC: `4A` (R254; mode R131). -/
def execLsrAcc (s : State) : Result :=
  unimplemented .lsrAcc s
/-- LSR, ZP: `46` (R254; mode R133). -/
def execLsrZp (zp8 : Byte) (s : State) : Result :=
  unimplemented (.lsrZp zp8) s
/-- LSR, ZPX: `56` (R254; mode R134). -/
def execLsrZpx (zp8 : Byte) (s : State) : Result :=
  unimplemented (.lsrZpx zp8) s
/-- LSR, ABS: `4E` (R254; mode R136). -/
def execLsrAbs (addr16 : Addr) (s : State) : Result :=
  unimplemented (.lsrAbs addr16) s
/-- LSR, ABX: `5E` (R254; mode R137). -/
def execLsrAbx (addr16 : Addr) (s : State) : Result :=
  unimplemented (.lsrAbx addr16) s

/-- ROL, ACC: `2A` (R255; mode R131). -/
def execRolAcc (s : State) : Result :=
  unimplemented .rolAcc s
/-- ROL, ZP: `26` (R255; mode R133). -/
def execRolZp (zp8 : Byte) (s : State) : Result :=
  unimplemented (.rolZp zp8) s
/-- ROL, ZPX: `36` (R255; mode R134). -/
def execRolZpx (zp8 : Byte) (s : State) : Result :=
  unimplemented (.rolZpx zp8) s
/-- ROL, ABS: `2E` (R255; mode R136). -/
def execRolAbs (addr16 : Addr) (s : State) : Result :=
  unimplemented (.rolAbs addr16) s
/-- ROL, ABX: `3E` (R255; mode R137). -/
def execRolAbx (addr16 : Addr) (s : State) : Result :=
  unimplemented (.rolAbx addr16) s

/-- ROR, ACC: `6A` (R256; mode R131). -/
def execRorAcc (s : State) : Result :=
  unimplemented .rorAcc s
/-- ROR, ZP: `66` (R256; mode R133). -/
def execRorZp (zp8 : Byte) (s : State) : Result :=
  unimplemented (.rorZp zp8) s
/-- ROR, ZPX: `76` (R256; mode R134). -/
def execRorZpx (zp8 : Byte) (s : State) : Result :=
  unimplemented (.rorZpx zp8) s
/-- ROR, ABS: `6E` (R256; mode R136). -/
def execRorAbs (addr16 : Addr) (s : State) : Result :=
  unimplemented (.rorAbs addr16) s
/-- ROR, ABX: `7E` (R256; mode R137). -/
def execRorAbx (addr16 : Addr) (s : State) : Result :=
  unimplemented (.rorAbx addr16) s

/-- TAX, IMP: `AA` (R257; mode R130). -/
def execTax (s : State) : Result :=
  unimplemented .tax s

/-- TAY, IMP: `A8` (R258; mode R130). -/
def execTay (s : State) : Result :=
  unimplemented .tay s

/-- TXA, IMP: `8A` (R259; mode R130). -/
def execTxa (s : State) : Result :=
  unimplemented .txa s

/-- TYA, IMP: `98` (R260; mode R130). -/
def execTya (s : State) : Result :=
  unimplemented .tya s

/-- TSX, IMP: `BA` (R261; mode R130). -/
def execTsx (s : State) : Result :=
  unimplemented .tsx s

/-- TXS, IMP: `9A` (R262; mode R130). -/
def execTxs (s : State) : Result :=
  unimplemented .txs s

/-- PHA, IMP: `48` (R263; mode R130). -/
def execPha (s : State) : Result :=
  unimplemented .pha s

/-- PLA, IMP: `68` (R264; mode R130). -/
def execPla (s : State) : Result :=
  unimplemented .pla s

/-- PHP, IMP: `08` (R265; mode R130). -/
def execPhp (s : State) : Result :=
  unimplemented .php s

/-- PLP, IMP: `28` (R266; mode R130). -/
def execPlp (s : State) : Result :=
  unimplemented .plp s

/-- JSR, ABS: `20` (R267; mode R136). -/
def execJsr (addr16 : Addr) (s : State) : Result :=
  unimplemented (.jsr addr16) s

/-- RTS, IMP: `60` (R268; mode R130). -/
def execRts (s : State) : Result :=
  unimplemented .rts s

/-- RTI, IMP: `40` (R269; mode R130). -/
def execRti (s : State) : Result :=
  unimplemented .rti s

/-- BRK, IMP: `00` (R270; mode R130). -/
def execBrk (s : State) : Result :=
  unimplemented .brk s

/-- NOP, IMP: `EA` (R271; mode R130). -/
def execNop (s : State) : Result :=
  unimplemented .nop s

/-- CLC, IMP: `18` (R272; mode R130). -/
def execClc (s : State) : Result :=
  unimplemented .clc s

/-- SEC, IMP: `38` (R273; mode R130). -/
def execSec (s : State) : Result :=
  unimplemented .sec s

/-- CLI, IMP: `58` (R274; mode R130). -/
def execCli (s : State) : Result :=
  unimplemented .cli s

/-- SEI, IMP: `78` (R275; mode R130). -/
def execSei (s : State) : Result :=
  unimplemented .sei s

/-- CLV, IMP: `B8` (R276; mode R130). -/
def execClv (s : State) : Result :=
  unimplemented .clv s

/-- CLD, IMP: `D8` (R277; mode R130). -/
def execCld (s : State) : Result :=
  unimplemented .cld s

/-- SED, IMP: `F8` (R278; mode R130). -/
def execSed (s : State) : Result :=
  unimplemented .sed s

end Sys2Proof.Machine
end

