-- ==== Sys2Proof/Machine/LoadStore.lean ====
section
/-! DEFINITION. Loads and stores (41_load_store.md rules R160 to R165). Loads write no flag. -/

namespace Sys2Proof.Machine

/-! ### The family: `register <- operand byte`, `memory[address] <- register` -/

/-- `A <- m` (R160). -/
def opLda (m : Byte) (s : State) : State := s.setA m

/-- `X <- m` (R161). -/
def opLdx (m : Byte) (s : State) : State := s.setX m

/-- `Y <- m` (R162). -/
def opLdy (m : Byte) (s : State) : State := s.setY m

/-- `MemWrite(ea, 1, A)` (R163). -/
def opSta (ea : Addr) (s : State) : State := s.write ea s.a

/-- `MemWrite(ea, 1, X)` (R164). -/
def opStx (ea : Addr) (s : State) : State := s.write ea s.x

/-- `MemWrite(ea, 1, Y)` (R165). -/
def opSty (ea : Addr) (s : State) : State := s.write ea s.y

/-- LDA, IMM: `A9` (R160; mode R132). -/
def execLdaImm (imm8 : Byte) (s : State) : Result :=
  complete (.ldaImm imm8) (opLda imm8 s)
/-- LDA, ZP: `A5` (R160; mode R133). -/
def execLdaZp (zp8 : Byte) (s : State) : Result :=
  complete (.ldaZp zp8) (opLda (s.read (eaZp zp8)) s)
/-- LDA, ZPX: `B5` (R160; mode R134). -/
def execLdaZpx (zp8 : Byte) (s : State) : Result :=
  complete (.ldaZpx zp8) (opLda (s.read (eaZpx zp8 s)) s)
/-- LDA, ABS: `AD` (R160; mode R136). -/
def execLdaAbs (addr16 : Addr) (s : State) : Result :=
  complete (.ldaAbs addr16) (opLda (s.read (eaAbs addr16)) s)
/-- LDA, ABX: `BD` (R160; mode R137). -/
def execLdaAbx (addr16 : Addr) (s : State) : Result :=
  complete (.ldaAbx addr16) (opLda (s.read (eaAbx addr16 s)) s)
/-- LDA, ABY: `B9` (R160; mode R138). -/
def execLdaAby (addr16 : Addr) (s : State) : Result :=
  complete (.ldaAby addr16) (opLda (s.read (eaAby addr16 s)) s)
/-- LDA, IZX: `A1` (R160; mode R140). -/
def execLdaIzx (zp8 : Byte) (s : State) : Result :=
  complete (.ldaIzx zp8) (opLda (s.read (eaIzx zp8 s)) s)
/-- LDA, IZY: `B1` (R160; mode R141). -/
def execLdaIzy (zp8 : Byte) (s : State) : Result :=
  complete (.ldaIzy zp8) (opLda (s.read (eaIzy zp8 s)) s)

/-- LDX, IMM: `A2` (R161; mode R132). -/
def execLdxImm (imm8 : Byte) (s : State) : Result :=
  complete (.ldxImm imm8) (opLdx imm8 s)
/-- LDX, ZP: `A6` (R161; mode R133). -/
def execLdxZp (zp8 : Byte) (s : State) : Result :=
  complete (.ldxZp zp8) (opLdx (s.read (eaZp zp8)) s)
/-- LDX, ZPY: `B6` (R161; mode R135). -/
def execLdxZpy (zp8 : Byte) (s : State) : Result :=
  complete (.ldxZpy zp8) (opLdx (s.read (eaZpy zp8 s)) s)
/-- LDX, ABS: `AE` (R161; mode R136). -/
def execLdxAbs (addr16 : Addr) (s : State) : Result :=
  complete (.ldxAbs addr16) (opLdx (s.read (eaAbs addr16)) s)
/-- LDX, ABY: `BE` (R161; mode R138). -/
def execLdxAby (addr16 : Addr) (s : State) : Result :=
  complete (.ldxAby addr16) (opLdx (s.read (eaAby addr16 s)) s)

/-- LDY, IMM: `A0` (R162; mode R132). -/
def execLdyImm (imm8 : Byte) (s : State) : Result :=
  complete (.ldyImm imm8) (opLdy imm8 s)
/-- LDY, ZP: `A4` (R162; mode R133). -/
def execLdyZp (zp8 : Byte) (s : State) : Result :=
  complete (.ldyZp zp8) (opLdy (s.read (eaZp zp8)) s)
/-- LDY, ZPX: `B4` (R162; mode R134). -/
def execLdyZpx (zp8 : Byte) (s : State) : Result :=
  complete (.ldyZpx zp8) (opLdy (s.read (eaZpx zp8 s)) s)
/-- LDY, ABS: `AC` (R162; mode R136). -/
def execLdyAbs (addr16 : Addr) (s : State) : Result :=
  complete (.ldyAbs addr16) (opLdy (s.read (eaAbs addr16)) s)
/-- LDY, ABX: `BC` (R162; mode R137). -/
def execLdyAbx (addr16 : Addr) (s : State) : Result :=
  complete (.ldyAbx addr16) (opLdy (s.read (eaAbx addr16 s)) s)

/-- STA, ZP: `85` (R163; mode R133). -/
def execStaZp (zp8 : Byte) (s : State) : Result :=
  complete (.staZp zp8) (opSta (eaZp zp8) s)
/-- STA, ZPX: `95` (R163; mode R134). -/
def execStaZpx (zp8 : Byte) (s : State) : Result :=
  complete (.staZpx zp8) (opSta (eaZpx zp8 s) s)
/-- STA, ABS: `8D` (R163; mode R136). -/
def execStaAbs (addr16 : Addr) (s : State) : Result :=
  complete (.staAbs addr16) (opSta (eaAbs addr16) s)
/-- STA, ABX: `9D` (R163; mode R137). -/
def execStaAbx (addr16 : Addr) (s : State) : Result :=
  complete (.staAbx addr16) (opSta (eaAbx addr16 s) s)
/-- STA, ABY: `99` (R163; mode R138). -/
def execStaAby (addr16 : Addr) (s : State) : Result :=
  complete (.staAby addr16) (opSta (eaAby addr16 s) s)
/-- STA, IZX: `81` (R163; mode R140). -/
def execStaIzx (zp8 : Byte) (s : State) : Result :=
  complete (.staIzx zp8) (opSta (eaIzx zp8 s) s)
/-- STA, IZY: `91` (R163; mode R141). -/
def execStaIzy (zp8 : Byte) (s : State) : Result :=
  complete (.staIzy zp8) (opSta (eaIzy zp8 s) s)

/-- STX, ZP: `86` (R164; mode R133). -/
def execStxZp (zp8 : Byte) (s : State) : Result :=
  complete (.stxZp zp8) (opStx (eaZp zp8) s)
/-- STX, ZPY: `96` (R164; mode R135). -/
def execStxZpy (zp8 : Byte) (s : State) : Result :=
  complete (.stxZpy zp8) (opStx (eaZpy zp8 s) s)
/-- STX, ABS: `8E` (R164; mode R136). -/
def execStxAbs (addr16 : Addr) (s : State) : Result :=
  complete (.stxAbs addr16) (opStx (eaAbs addr16) s)

/-- STY, ZP: `84` (R165; mode R133). -/
def execStyZp (zp8 : Byte) (s : State) : Result :=
  complete (.styZp zp8) (opSty (eaZp zp8) s)
/-- STY, ZPX: `94` (R165; mode R134). -/
def execStyZpx (zp8 : Byte) (s : State) : Result :=
  complete (.styZpx zp8) (opSty (eaZpx zp8 s) s)
/-- STY, ABS: `8C` (R165; mode R136). -/
def execStyAbs (addr16 : Addr) (s : State) : Result :=
  complete (.styAbs addr16) (opSty (eaAbs addr16) s)

end Sys2Proof.Machine
end

