-- ==== Sys2Proof/Machine/ShiftIncDec.lean ====
section
/-! DEFINITION. ASL, INC, DEC, INX, INY, DEX, DEY (43_shift_incdec.md rules R200 to R206). Increments and decrements write no flag. -/

namespace Sys2Proof.Machine

/-- ASL of the accumulator (R200). -/
def opAslA (s : State) : State := (s.setFlags (s.flags.asl s.a)).setA (aslResult s.a)

/-- ASL of the byte at `ea`, read once and written once (R200; 20_memory.md R63). -/
def opAslMem (ea : Addr) (s : State) : State :=
  (s.setFlags (s.flags.asl (s.read ea))).write ea (aslResult (s.read ea))

/-- `MemWrite(ea, 1, MemRead(ea, 1) +8 1)` (R201). -/
def opInc (ea : Addr) (s : State) : State := s.write ea (s.read ea + 1)

/-- `MemWrite(ea, 1, MemRead(ea, 1) -8 1)` (R202). -/
def opDec (ea : Addr) (s : State) : State := s.write ea (s.read ea - 1)

/-- `X <- X +8 1` (R203). -/
def opInx (s : State) : State := s.setX (s.x + 1)

/-- `Y <- Y +8 1` (R204). -/
def opIny (s : State) : State := s.setY (s.y + 1)

/-- `X <- X -8 1` (R205). -/
def opDex (s : State) : State := s.setX (s.x - 1)

/-- `Y <- Y -8 1` (R206). -/
def opDey (s : State) : State := s.setY (s.y - 1)

/-- ASL, ACC: `0A` (R200; mode R131). -/
def execAslAcc (s : State) : Result :=
  complete .aslAcc (opAslA s)
/-- ASL, ZP: `06` (R200; mode R133). -/
def execAslZp (zp8 : Byte) (s : State) : Result :=
  complete (.aslZp zp8) (opAslMem (eaZp zp8) s)
/-- ASL, ZPX: `16` (R200; mode R134). -/
def execAslZpx (zp8 : Byte) (s : State) : Result :=
  complete (.aslZpx zp8) (opAslMem (eaZpx zp8 s) s)
/-- ASL, ABS: `0E` (R200; mode R136). -/
def execAslAbs (addr16 : Addr) (s : State) : Result :=
  complete (.aslAbs addr16) (opAslMem (eaAbs addr16) s)
/-- ASL, ABX: `1E` (R200; mode R137). -/
def execAslAbx (addr16 : Addr) (s : State) : Result :=
  complete (.aslAbx addr16) (opAslMem (eaAbx addr16 s) s)

/-- INC, ZP: `E6` (R201; mode R133). -/
def execIncZp (zp8 : Byte) (s : State) : Result :=
  complete (.incZp zp8) (opInc (eaZp zp8) s)
/-- INC, ZPX: `F6` (R201; mode R134). -/
def execIncZpx (zp8 : Byte) (s : State) : Result :=
  complete (.incZpx zp8) (opInc (eaZpx zp8 s) s)
/-- INC, ABS: `EE` (R201; mode R136). -/
def execIncAbs (addr16 : Addr) (s : State) : Result :=
  complete (.incAbs addr16) (opInc (eaAbs addr16) s)
/-- INC, ABX: `FE` (R201; mode R137). -/
def execIncAbx (addr16 : Addr) (s : State) : Result :=
  complete (.incAbx addr16) (opInc (eaAbx addr16 s) s)

/-- DEC, ZP: `C6` (R202; mode R133). -/
def execDecZp (zp8 : Byte) (s : State) : Result :=
  complete (.decZp zp8) (opDec (eaZp zp8) s)
/-- DEC, ZPX: `D6` (R202; mode R134). -/
def execDecZpx (zp8 : Byte) (s : State) : Result :=
  complete (.decZpx zp8) (opDec (eaZpx zp8 s) s)
/-- DEC, ABS: `CE` (R202; mode R136). -/
def execDecAbs (addr16 : Addr) (s : State) : Result :=
  complete (.decAbs addr16) (opDec (eaAbs addr16) s)
/-- DEC, ABX: `DE` (R202; mode R137). -/
def execDecAbx (addr16 : Addr) (s : State) : Result :=
  complete (.decAbx addr16) (opDec (eaAbx addr16 s) s)

/-- INX, IMP: `E8` (R203; mode R130). -/
def execInx (s : State) : Result :=
  complete .inx (opInx s)

/-- INY, IMP: `C8` (R204; mode R130). -/
def execIny (s : State) : Result :=
  complete .iny (opIny s)

/-- DEX, IMP: `CA` (R205; mode R130). -/
def execDex (s : State) : Result :=
  complete .dex (opDex s)

/-- DEY, IMP: `88` (R206; mode R130). -/
def execDey (s : State) : Result :=
  complete .dey (opDey s)

end Sys2Proof.Machine
end

