-- ==== Sys2Proof/Machine/Step.lean ====
section
/-! DEFINITION. The step (40_step_and_addressing.md rules R120, R121): fetch, IR, decode, execute and complete. -/

namespace Sys2Proof.Machine

/-- One step transaction. An illegal opcode byte faults; a legal one runs its meaning in the state whose IR holds the byte. -/
def step (s : State) : Host.Outcome State Fault Refusal :=
  match s.fetchDecode with
  | none => raise (.unknownOpcode (s.operandByte 0) s.pc)
  | some i => exec i s.fetchIr

/-- The state with an instruction stored where `step` fetches its next one: three bytes at PC, the longest instruction, the
bits from `nbits` up being 0. It stands for the host's placing of a program (log entry 7). -/
def State.withFetchWord (s : State) (nbits w : Nat) : State :=
  let v := w % 2 ^ nbits
  ((s.write s.pc (BitVec.ofNat 8 v)).write (s.pc + 1) (BitVec.ofNat 8 (v / 2 ^ 8))).write (s.pc + 2)
    (BitVec.ofNat 8 (v / 2 ^ 16))

end Sys2Proof.Machine
end

