-- ==== Sys2Proof/Machine/HostPort.lean ====
section
/-! DEFINITION. The interface of the block (10_state.md rules R40, R41) and what the host may do between steps: reset
(70_reset_and_hazards.md rule R330), storage read, write and `load_sequential` (20_memory.md rules R71, R72), step, and run
(60_exceptions.md rule R316). -/

namespace Sys2Proof.Machine

/-! ### The state a step leaves -/

/-- The state after a step transaction, faulting or not: a faulting step changes IR and nothing else (60_exceptions.md R301,
R302; log entry 5), and the next step may be attempted from it (R303). -/
def State.afterStep (s : State) : State :=
  match step s with
  | .next t => t
  | .fault _ => s.fetchIr
  | .refused _ => s.fetchIr

/-- The result of a step as the `status` port shows it (10_state.md R40; codes 60_exceptions.md R300). -/
inductive Status where
  | ok
  | unknownOpcode (b : Byte) (pc : Addr)
  | unimplemented (op : Op) (mode : Mode) (pc : Addr)
  deriving DecidableEq, Repr

/-- The status of a fault. -/
def Fault.status : Fault → Status
  | .unknownOpcode b pc => .unknownOpcode b pc
  | .unimplementedOperation op mode pc => .unimplemented op mode pc

/-- The code on the 2-bit port (60_exceptions.md R300). -/
def Status.code : Status → BitVec 2
  | .ok => 0
  | .unknownOpcode _ _ => 1
  | .unimplemented _ _ _ => 2

/-! ### Reset and launch -/

/-- The reset transaction (70_reset_and_hazards.md R330; 10_state.md R42): all core state at once; storage and the loader's cursor
are not touched (20_memory.md R70, R71). -/
def State.resetWith (s : State) (initA initX initY : Byte) : State :=
  { s with
    a := initA
    x := initX
    y := initY
    pc := Config.romBase
    ir := 0x00
    flags := Flags.clear
    cyc := 0 }

/-- The machine as the host launches it: the three arguments of reset and any contents of storage (00_scope.md R5, the OPEN
parameters; 70_reset_and_hazards.md R333). -/
def State.launch (initA initX initY : Byte) (memInit : Addr → Byte) : State :=
  ({ State.reset with mem := Memory.ofFn memInit }).resetWith initA initX initY

/-! ### Loading a program -/

/-- Put bytes at rising addresses from `a` on. -/
def State.writeBytes : State → Addr → List Byte → State
  | s, _, [] => s
  | s, a, v :: rest => (s.write a v).writeBytes (a + 1) rest

/-- `load_sequential(bytes)` (20_memory.md R71): byte k goes to the cursor's address plus k and the cursor moves on by the length.
A load that would move the cursor past 0xFFFF is refused (decision D19; log entry 4). -/
def State.loadSequential (s : State) (bytes : List Byte) : Except Refusal State :=
  if s.cursor.toNat + bytes.length ≤ 0xFFFF then
    .ok ((s.writeBytes s.cursor bytes).setCursor (s.cursor + BitVec.ofNat 16 bytes.length))
  else .error (.loadPastTop s.cursor bytes.length)

/-! ### The host's moves -/

/-- What the host may do between two steps, and the step itself (20_memory.md R65, R72; 70_reset_and_hazards.md R333). It cannot
write a register or a flag except by reset (10_state.md R41). -/
inductive HostMove where
  | reset (initA initX initY : Byte)
  | step
  | read (a : Addr)
  | write (a : Addr) (v : Byte)
  | loadSequential (bytes : List Byte)
  deriving DecidableEq, Repr

/-- What the host gets back from a move. -/
inductive Response where
  | done
  | byte (v : Byte)
  | stepped (st : Status)
  | refused (r : Refusal)
  deriving DecidableEq, Repr

/-- What the host gets back from the step that starts here. `step` refuses nothing: the third case never arises. -/
def State.stepResponse (s : State) : Response :=
  match step s with
  | .next _ => .stepped .ok
  | .fault f => .stepped f.status
  | .refused r => .refused r

/-- One transaction: it runs to completion before the next is accepted (10_state.md R40). -/
def HostMove.apply (m : HostMove) (s : State) : Response × State :=
  match m with
  | .reset ia ix iy => (.done, s.resetWith ia ix iy)
  | .step => (s.stepResponse, s.afterStep)
  | .read a => (.byte (s.read a), s)
  | .write a v => (.done, s.write a v)
  | .loadSequential bytes =>
    match s.loadSequential bytes with
    | .ok t => (.done, t)
    | .error r => (.refused r, s)

/-- The state after a list of moves, first one first. -/
def State.afterMoves (s : State) (ms : List HostMove) : State :=
  ms.foldl (fun t m => (m.apply t).2) s

/-! ### The output ports -/

/-- The state outputs of 10_state.md R40, read-only (R41), with the status of the latest step. -/
structure Ports where
  status : BitVec 2
  a : Byte
  x : Byte
  y : Byte
  ir : Byte
  pc : Addr
  n : Bool
  v : Bool
  b : Bool
  d : Bool
  i : Bool
  z : Bool
  c : Bool
  cyc : CycleCount
  deriving DecidableEq, Repr

/-- What the ports show in a state when the latest step gave this status (60_exceptions.md R303: the core keeps no fault bit). -/
def State.ports (s : State) (latest : Status) : Ports :=
  { status := latest.code, a := s.a, x := s.x, y := s.y, ir := s.ir, pc := s.pc,
    n := s.flags.n, v := s.flags.v, b := s.flags.b, d := s.flags.d, i := s.flags.i, z := s.flags.z, c := s.flags.c,
    cyc := s.cyc }

/-! ### Runs (60_exceptions.md rule R316): the host ends a run, the core never does -/

/-- R316 (a): a fixed number of steps; a faulting step is attempted again like any other (R303). -/
def State.runSteps : Nat → State → State
  | 0, s => s
  | n + 1, s => State.runSteps n s.afterStep

/-- R316 (b): step until PC equals an address, for at most `fuel` steps; `none` if it never does. -/
def State.runUntilPc (stop : Addr) : Nat → State → Option State
  | 0, s => if s.pc = stop then some s else none
  | n + 1, s => if s.pc = stop then some s else State.runUntilPc stop n s.afterStep

/-- R316 (c): step until a step faults, for at most `fuel` steps; `none` if none does. -/
def State.runUntilFault : Nat → State → Option (Fault × State)
  | 0, _ => none
  | n + 1, s =>
    match step s with
    | .next t => State.runUntilFault n t
    | .fault f => some (f, s.afterStep)
    | .refused _ => none

end Sys2Proof.Machine
end

