-- ==== Sys2Proof/Machine/Sequencer.lean ====
section
/-! DEFINITION. The step algorithm as 40_step_and_addressing.md rule R121 writes it, line by line: the decoder's output is two
independent tags, `resolve` looks at the mode alone, `execute` at the operation alone (30_encoding.md rule R93, R124), and operand
bytes are read from storage while the instruction runs. It also records the storage accesses of the step in order
(20_memory.md rule R61), which the state does not show. `step` (Machine/Step.lean) is built from one meaning per opcode instead; that
the two agree is a statement of Certificates/Slice0/Obligations.lean. -/

namespace Sys2Proof.Machine

/-- One access at the storage port (20_memory.md R51, R61). -/
inductive Access where
  | read (a : Addr)
  | write (a : Addr) (v : Byte)
  deriving DecidableEq, Repr

/-! ### Execute (files 41 to 45), on a resolved operand -/

/-- An operation that reads its operand's byte: `m = MemRead(ea, 1)` (R128). -/
def onValue (f : Byte → State → State) (o : Operand) (s : State) : Option State :=
  match o with
  | .addr ea => some (f (s.read ea) s)
  | .regA => none
  | .none => none

/-- An operation on an address: a store, a read-modify-write, a jump. -/
def onAddr (f : Addr → State → State) (o : Operand) (s : State) : Option State :=
  match o with
  | .addr ea => some (f ea s)
  | .regA => none
  | .none => none

/-- An operation whose own rule names its register (IMP). -/
def onImplied (f : State → State) (o : Operand) (s : State) : Option State :=
  match o with
  | .none => some (f s)
  | .regA => none
  | .addr _ => none

/-- ASL, the one operation that acts on A or on memory as the operand says (30_encoding.md R93; 43_shift_incdec.md R200). -/
def onAslOperand (o : Operand) (s : State) : Option State :=
  match o with
  | .regA => some (opAslA s)
  | .addr ea => some (opAslMem ea s)
  | .none => none

/-- `Execute(op, opnd)`: `none` where SIM gives the operation no execution semantics, or for an operand kind no opcode pairs
with it (40_step_and_addressing.md R145). -/
def execute (op : Op) (o : Operand) (s : State) : Option State :=
  match op with
  | .lda => onValue opLda o s
  | .ldx => onValue opLdx o s
  | .ldy => onValue opLdy o s
  | .sta => onAddr opSta o s
  | .stx => onAddr opStx o s
  | .sty => onAddr opSty o s
  | .adc => onValue opAdc o s
  | .and => onValue opAnd o s
  | .bit => onValue opBit o s
  | .asl => onAslOperand o s
  | .inc => onAddr opInc o s
  | .dec => onAddr opDec o s
  | .inx => onImplied opInx o s
  | .iny => onImplied opIny o s
  | .dex => onImplied opDex o s
  | .dey => onImplied opDey o s
  | .cmp => onValue opCmp o s
  | .cpx => onValue opCpx o s
  | .cpy => onValue opCpy o s
  | .bpl => onValue (opBranch (!s.flags.n)) o s
  | .bmi => onValue (opBranch s.flags.n) o s
  | .bvc => onValue (opBranch (!s.flags.v)) o s
  | .bvs => onValue (opBranch s.flags.v) o s
  | .bcc => onValue (opBranch (!s.flags.c)) o s
  | .bcs => onValue (opBranch s.flags.c) o s
  | .bne => onValue (opBranch (!s.flags.z)) o s
  | .beq => onValue (opBranch s.flags.z) o s
  | .jmp => onAddr opJmp o s
  | .ora | .eor | .sbc | .lsr | .rol | .ror | .tax | .tay | .txa | .tya | .tsx | .txs | .pha | .pla
  | .php | .plp | .jsr | .rts | .rti | .brk | .nop | .clc | .sec | .cli | .sei | .clv | .cld | .sed => none

/-! ### The accesses of a completed step (20_memory.md rules R61 to R63) -/

/-- What an operation does at its effective address (40_step_and_addressing.md R146). -/
inductive DataUse where
  | nothing | reads | writes | readsThenWrites
  deriving DecidableEq, Repr

/-- The kind of operation, as the columns of R146 name it. Operations without execution semantics make no data access. -/
def dataUse : Op → DataUse
  | .lda | .ldx | .ldy | .adc | .and | .bit | .cmp | .cpx | .cpy => .reads
  | .sta | .stx | .sty => .writes
  | .asl | .inc | .dec => .readsThenWrites
  | .inx | .iny | .dex | .dey | .bpl | .bmi | .bvc | .bvs | .bcc | .bcs | .bne | .beq | .jmp => .nothing
  | .ora | .eor | .sbc | .lsr | .rol | .ror | .tax | .tay | .txa | .tya | .tsx | .txs | .pha | .pla
  | .php | .plp | .jsr | .rts | .rti | .brk | .nop | .clc | .sec | .cli | .sei | .clv | .cld | .sed => .nothing

/-- Access 2: the operand bytes, in rising address order. -/
def operandAccesses (m : Mode) (s : State) : List Access :=
  (List.range m.operandBytes).map fun k => .read (s.pc + BitVec.ofNat 16 (k + 1))

/-- The two zero-page reads of a pointer at slot `z`, low byte first. -/
def zpPointerAccesses (z : Byte) : List Access := [.read (zext16 z), .read (zext16 (z + 1))]

/-- Access 3: the pointer bytes of IND, IZX and IZY, low byte first. -/
def pointerAccesses (m : Mode) (s : State) : List Access :=
  match m with
  | .ind => [.read (absOperand s), .read (absOperand s + 1)]
  | .izx => zpPointerAccesses (s.operandByte 1 + s.x)
  | .izy => zpPointerAccesses (s.operandByte 1)
  | .imp | .acc | .imm | .zp | .zpx | .zpy | .abs | .abx | .aby | .rel => []

/-- Accesses 4 and 5: the data read and the data write at the effective address. In immediate mode the byte read is the operand
byte of access 2 and is not read twice. `after` is the state `Execute` left: the byte written is the one it holds. -/
def dataAccesses (d : Descriptor) (s after : State) : List Access :=
  match resolve d.mode s with
  | .none => []
  | .regA => []
  | .addr ea =>
    match dataUse d.op with
    | .nothing => []
    | .reads => if d.mode = .imm then [] else [.read ea]
    | .writes => [.write ea (after.read ea)]
    | .readsThenWrites => [.read ea, .write ea (after.read ea)]

/-! ### Step -/

/-- What a step transaction gives: the fault, if it ends in one, the state it leaves, and its accesses in order. -/
structure Report where
  fault    : Option Fault
  after    : State
  accesses : List Access
  deriving DecidableEq, Repr

/-- The state after line 10: the PC advance unless the operation is JMP, then the cycles (R121, R125, R126). -/
def afterExecute (d : Descriptor) (s : State) : State :=
  (if d.op = .jmp then s else s.advancePc d.length).addCycles d.cycles

/-- The step of R121. Lines 1 and 2 put the fetched byte in IR; lines 3 to 6 decode it; lines 7 and 8 resolve and execute. -/
def sequencer (s : State) : Report :=
  let b := s.operandByte 0
  let s1 := s.setIr b
  match decodeByte b with
  | none => ⟨some (.unknownOpcode b s.pc), s1, [.read s.pc]⟩
  | some d =>
    match (if d.cls = .exec then execute d.op (resolve d.mode s1) s1 else none) with
    | none => ⟨some (.unimplementedOperation d.op d.mode s.pc), s1, [.read s.pc]⟩
    | some s2 =>
      ⟨none, afterExecute d s2,
        .read s.pc :: (operandAccesses d.mode s1 ++ pointerAccesses d.mode s1 ++ dataAccesses d s1 s2)⟩

/-- The outcome a report stands for. -/
def Report.outcome (r : Report) : Result :=
  match r.fault with
  | none => .next r.after
  | some f => .fault f

/-- A memory after the writes of an access list, in order. -/
def replayWrites : List Access → Memory → Memory
  | [], m => m
  | .read _ :: rest, m => replayWrites rest m
  | .write a v :: rest, m => replayWrites rest (m.write a.toNat v)

end Sys2Proof.Machine
end

