-- ==== Sys2Proof/Safety.lean ====
section
/-! DEFINITION. The terms claims are stated in: a step that completes, a run of completed steps, and the invariant of the core
(10_state.md rule R43). -/

namespace Sys2Proof.Machine

/-- The step completes: its outcome is `Ok` (60_exceptions.md R300, code 0). -/
def Completes (s : State) : Prop := ∃ t, step s = .next t

/-- `n` steps in a row complete and lead from `s` to `t`. -/
def RunsTo : Nat → State → State → Prop
  | 0, s, t => s = t
  | n + 1, s, t => ∃ u, step s = .next u ∧ RunsTo n u t

/-- The three inert flags are 0 (10_state.md R43 (a)). -/
def InertFlagsClear (s : State) : Prop := s.flags.b = false ∧ s.flags.d = false ∧ s.flags.i = false

/-- The invariant of the core: the inert flags are 0 and storage is in its canonical form. Every register is within its width
by its type (10_state.md R43 (b)). -/
def CoreInv (s : State) : Prop := InertFlagsClear s ∧ s.mem.wf = true

end Sys2Proof.Machine
end

