-- ==== Sys2Proof/Certificates/Slice0/Obligations.lean ====
section
/-! DEFINITION. The statements about the model, from the spec's numbered rules. Every statement about an instruction covers every
form the opcode table gives it. The opcode bytes, lengths and base cycle counts that stand in the forms below are the spec's
(30_encoding.md rule R87, quoted again in files 41 to 46); the spec itself took them from the published matrix by its decision D1. -/

namespace Sys2Proof.Machine

/-! ### What the statements are written with -/

/-- A form that stores nothing: its bytes, its base cycles, and that it completes in `u` with the length and the cycles added.
`u` is the start state with the fields the rule writes replaced, so every other field, all of memory included, is unchanged. -/
def Form (i : Instr) (bytes : List Byte) (cycles : Nat) (s u : State) : Prop :=
  encode i = bytes ∧
  exec i s = .next { u with
    pc := s.pc + BitVec.ofNat 16 bytes.length
    cyc := s.cyc + BitVec.ofNat 64 cycles }

/-- A form that stores one byte `v` at `ea`: it completes, the byte at `ea` is `v`, every other address reads as before, and
every field but memory is that of `u` with the length and the cycles added. -/
def StoreForm (i : Instr) (bytes : List Byte) (cycles : Nat) (s u : State) (ea : Addr) (v : Byte) : Prop :=
  encode i = bytes ∧
  ∃ t, exec i s = .next t ∧
    t = { u with
      mem := t.mem
      pc := s.pc + BitVec.ofNat 16 bytes.length
      cyc := s.cyc + BitVec.ofNat 64 cycles } ∧
    t.read ea = v ∧ ∀ p, p ≠ ea → t.read p = s.read p

/-- A branch (45_branch_jump.md R230): two bytes, two cycles taken or not, the displacement signed and relative to the next
instruction. -/
def BranchForm (i : Instr) (opcode rel8 : Byte) (taken : Bool) (s : State) : Prop :=
  encode i = [opcode, rel8] ∧
  exec i s = .next { s with
    pc := BitVec.ofInt 16 (if taken then (s.pc.toNat : Int) + 2 + rel8.toInt else (s.pc.toNat : Int) + 2)
    cyc := s.cyc + 2 }

/-- A decode-only form: its bytes, the descriptor its opcode byte decodes to, and the fault its meaning ends in. -/
def StopForm (i : Instr) (bytes : List Byte) (cycles : Nat) (op : Op) (mode : Mode) (s : State) : Prop :=
  encode i = bytes ∧ decodeByte i.opcode = some ⟨op, mode, bytes.length, cycles, .decodeOnly⟩ ∧
  exec i s = .fault (.unimplementedOperation op mode s.pc)

/-! The effective addresses once more, in plain arithmetic on numbers (40_step_and_addressing.md R133 to R141). -/

/-- The 16-bit number in two storage bytes, low byte first. -/
def natPointer (s : State) (lo hi : Nat) : Nat := (s.mem.read lo).toNat + 256 * (s.mem.read hi).toNat

def natZp (zp8 : Byte) : Nat := zp8.toNat
def natZpx (zp8 : Byte) (s : State) : Nat := (zp8.toNat + s.x.toNat) % 256
def natZpy (zp8 : Byte) (s : State) : Nat := (zp8.toNat + s.y.toNat) % 256
def natAbs (addr16 : Addr) : Nat := addr16.toNat
def natAbx (addr16 : Addr) (s : State) : Nat := (addr16.toNat + s.x.toNat) % 65536
def natAby (addr16 : Addr) (s : State) : Nat := (addr16.toNat + s.y.toNat) % 65536
def natInd (addr16 : Addr) (s : State) : Nat := natPointer s addr16.toNat ((addr16.toNat + 1) % 65536)
def natIzx (zp8 : Byte) (s : State) : Nat := natPointer s (natZpx zp8 s) ((natZpx zp8 s + 1) % 256)
def natIzy (zp8 : Byte) (s : State) : Nat := (natPointer s zp8.toNat ((zp8.toNat + 1) % 256) + s.y.toNat) % 65536

/-- The 105 illegal opcode bytes, row by row as 30_encoding.md R89 lists them. -/
def illegalBytes : List Nat :=
  [0x02, 0x03, 0x04, 0x07, 0x0B, 0x0C, 0x0F] ++
  [0x12, 0x13, 0x14, 0x17, 0x1A, 0x1B, 0x1C, 0x1F] ++
  [0x22, 0x23, 0x27, 0x2B, 0x2F] ++
  [0x32, 0x33, 0x34, 0x37, 0x3A, 0x3B, 0x3C, 0x3F] ++
  [0x42, 0x43, 0x44, 0x47, 0x4B, 0x4F] ++
  [0x52, 0x53, 0x54, 0x57, 0x5A, 0x5B, 0x5C, 0x5F] ++
  [0x62, 0x63, 0x64, 0x67, 0x6B, 0x6F] ++
  [0x72, 0x73, 0x74, 0x77, 0x7A, 0x7B, 0x7C, 0x7F] ++
  [0x80, 0x82, 0x83, 0x87, 0x89, 0x8B, 0x8F] ++
  [0x92, 0x93, 0x97, 0x9B, 0x9C, 0x9E, 0x9F] ++
  [0xA3, 0xA7, 0xAB, 0xAF] ++
  [0xB2, 0xB3, 0xB7, 0xBB, 0xBF] ++
  [0xC2, 0xC3, 0xC7, 0xCB, 0xCF] ++
  [0xD2, 0xD3, 0xD4, 0xD7, 0xDA, 0xDB, 0xDC, 0xDF] ++
  [0xE2, 0xE3, 0xE7, 0xEB, 0xEF] ++
  [0xF2, 0xF3, 0xF4, 0xF7, 0xFA, 0xFB, 0xFC, 0xFF]

/-- The flag write matrix of 10_state.md R35: the `w` entries of each row, in the order N V B D I Z C. -/
def flagsWritten : Op → List Bool
  | .adc                => [true,  true,  false, false, false, true,  true]
  | .and                => [true,  false, false, false, false, true,  false]
  | .asl                => [true,  false, false, false, false, true,  true]
  | .bit                => [true,  true,  false, false, false, true,  false]
  | .cmp | .cpx | .cpy  => [true,  false, false, false, false, true,  true]
  | _                   => [false, false, false, false, false, false, false]

/-- The flags in the same order. -/
def Flags.asList (f : Flags) : List Bool := [f.n, f.v, f.b, f.d, f.i, f.z, f.c]

/-- The predicate table of the branches (45_branch_jump.md R230); `none` for an operation that is no branch. -/
def branchPredicate : Op → Option (Flags → Bool)
  | .bpl => some fun f => !f.n
  | .bmi => some fun f => f.n
  | .bvc => some fun f => !f.v
  | .bvs => some fun f => f.v
  | .bcc => some fun f => !f.c
  | .bcs => some fun f => f.c
  | .bne => some fun f => !f.z
  | .beq => some fun f => f.z
  | _ => none

/-- The address an instruction stores to, by the function its meaning uses; `none` for a form that stores nothing. -/
def storeAddress : Instr → State → Option Addr
  | .staZp zp8, _ => some (eaZp zp8)
  | .staZpx zp8, s => some (eaZpx zp8 s)
  | .staAbs addr16, _ => some (eaAbs addr16)
  | .staAbx addr16, s => some (eaAbx addr16 s)
  | .staAby addr16, s => some (eaAby addr16 s)
  | .staIzx zp8, s => some (eaIzx zp8 s)
  | .staIzy zp8, s => some (eaIzy zp8 s)
  | .stxZp zp8, _ => some (eaZp zp8)
  | .stxZpy zp8, s => some (eaZpy zp8 s)
  | .stxAbs addr16, _ => some (eaAbs addr16)
  | .styZp zp8, _ => some (eaZp zp8)
  | .styZpx zp8, s => some (eaZpx zp8 s)
  | .styAbs addr16, _ => some (eaAbs addr16)
  | .aslZp zp8, _ => some (eaZp zp8)
  | .aslZpx zp8, s => some (eaZpx zp8 s)
  | .aslAbs addr16, _ => some (eaAbs addr16)
  | .aslAbx addr16, s => some (eaAbx addr16 s)
  | .incZp zp8, _ => some (eaZp zp8)
  | .incZpx zp8, s => some (eaZpx zp8 s)
  | .incAbs addr16, _ => some (eaAbs addr16)
  | .incAbx addr16, s => some (eaAbx addr16 s)
  | .decZp zp8, _ => some (eaZp zp8)
  | .decZpx zp8, s => some (eaZpx zp8 s)
  | .decAbs addr16, _ => some (eaAbs addr16)
  | .decAbx addr16, s => some (eaAbx addr16 s)
  | _, _ => none

/-- Reads an access list makes. -/
def readCount (l : List Access) : Nat := l.countP fun | .read _ => true | .write _ _ => false

/-- Writes an access list makes. -/
def writeCount (l : List Access) : Nat := l.countP fun | .read _ => false | .write _ _ => true

/-- The pointer reads of a mode (40_step_and_addressing.md R146, column "ptr"). -/
def pointerReads : Mode → Nat
  | .ind | .izx | .izy => 2
  | _ => 0

/-- The operations that read the byte at their effective address: R146, columns "read-type op" and "read-modify-write". -/
def readsOperand : Op → Bool
  | .lda | .ldx | .ldy | .adc | .and | .bit | .cmp | .cpx | .cpy => true
  | .asl | .inc | .dec => true
  | .sta | .stx | .sty => false
  | .inx | .iny | .dex | .dey => false
  | .jmp | .bpl | .bmi | .bvc | .bvs | .bcc | .bcs | .bne | .beq => false
  | .ora | .eor | .sbc | .lsr | .rol | .ror | .tax | .tay | .txa | .tya | .tsx | .txs | .pha | .pla
  | .php | .plp | .jsr | .rts | .rti | .brk | .nop | .clc | .sec | .cli | .sei | .clv | .cld | .sed => false

/-- The operations that write the byte at their effective address: R146, columns "store" and "read-modify-write". -/
def writesOperand : Op → Bool
  | .sta | .stx | .sty => true
  | .asl | .inc | .dec => true
  | .lda | .ldx | .ldy | .adc | .and | .bit | .cmp | .cpx | .cpy => false
  | .inx | .iny | .dex | .dey => false
  | .jmp | .bpl | .bmi | .bvc | .bvs | .bcc | .bcs | .bne | .beq => false
  | .ora | .eor | .sbc | .lsr | .rol | .ror | .tax | .tay | .txa | .tya | .tsx | .txs | .pha | .pla
  | .php | .plp | .jsr | .rts | .rti | .brk | .nop | .clc | .sec | .cli | .sei | .clv | .cld | .sed => false

/-- The modes in which a data access is made at the effective address: R146, the rows below IMM, which has "0 more". -/
def accessesData : Mode → Bool
  | .imp | .acc | .imm => false
  | .zp | .zpx | .zpy | .abs | .abx | .aby | .ind | .izx | .izy | .rel => true

/-- The data reads of an executable descriptor: R146, the row of its mode and the column of its operation. -/
def dataReads (d : Descriptor) : Nat := if accessesData d.mode && readsOperand d.op then 1 else 0

/-- The data writes of an executable descriptor (R146). -/
def dataWrites (d : Descriptor) : Nat := if accessesData d.mode && writesOperand d.op then 1 else 0

/-- A state with the registers nothing reads, IR, CYC and the three inert flags, replaced. -/
def State.withUnread (s : State) (ir : Byte) (cyc : CycleCount) (b d i : Bool) : State :=
  { s with ir := ir, cyc := cyc, flags := { s.flags with b := b, d := d, i := i } }

end Sys2Proof.Machine

open Sys2Proof Sys2Proof.Machine

/-- Every instruction is well-formed, and decoding its encoded bytes followed by any bytes gives the instruction with all its operand bits and leaves exactly those bytes. -/
def Obligations.DecodeOfEncodeIsTheInstruction : Prop :=
  ∀ (i : Instr) (rest : List Byte), i.wellFormed = true ∧ decode (encode i ++ rest) = .ok (i, rest)

/-- If decoding a byte list answers an instruction and a rest, the list is the encoding of that instruction followed by the rest: no bit of an accepted instruction is dropped and each instruction has one encoding. -/
def Obligations.DecodedBytesAreTheEncoding : Prop :=
  ∀ (bytes rest : List Byte) (i : Instr), decode bytes = .ok (i, rest) → bytes = encode i ++ rest

/-- The decoder has no instruction for an opcode byte, whatever two bytes follow, exactly when the byte is one of the 105 the spec lists as illegal; it then rejects a byte list that starts with it as an unknown opcode and names the byte. -/
def Obligations.IllegalBytesAreExactlyTheListedOnes : Prop :=
  illegalBytes.length = 105 ∧
  (∀ b b1 b2 : Byte, decodeAt b b1 b2 = none ↔ b.toNat ∈ illegalBytes) ∧
  (∀ (b : Byte) (rest : List Byte), decode (b :: rest) = .error (.unknownOpcode b) ↔ b.toNat ∈ illegalBytes)

/-- No two table entries share an opcode byte, and no entry has two. -/
def Obligations.OneOpcodeByteForEachPairOfOperationAndMode : Prop :=
  ∀ i j : Instr, i.opcode = j.opcode ↔ i.entry = j.entry

/-- For every row of the opcode table, Encode with length - 1 operand bytes succeeds and its bytes decode to an instruction with the row's descriptor and those operand bytes; with any other count it fails with OperandCountMismatch and the two counts. -/
def Obligations.EncoderChecksTheOperandCount : Prop :=
  ∀ r ∈ opcodeTable, ∀ operands : List Byte,
    (operands.length = r.descriptor.length - 1 →
      ∃ e i, encodeRow r operands = .ok e ∧ decode e.bytes = .ok (i, []) ∧
        i.opcode = r.opcode ∧ i.descriptor = r.descriptor ∧ i.operands = operands) ∧
    (operands.length ≠ r.descriptor.length - 1 →
      encodeRow r operands = .error (.operandCountMismatch (r.descriptor.length - 1) operands.length))

/-- A9 12 is LDA #0x12, A1 20 is LDA ($20,X), 6C 10 03 is JMP ($0310), 1E 00 02 is ASL $0200,X, 96 FF is STX $FF,Y, D0 FB is BNE with displacement FB, E8 is INX, 20 is JSR. -/
def Obligations.SpecWordsDecodeToTheirInstructions : Prop :=
  decode [0xA9, 0x12] = .ok (.ldaImm 0x12, []) ∧ decode [0xA1, 0x20] = .ok (.ldaIzx 0x20, []) ∧
  decode [0x6C, 0x10, 0x03] = .ok (.jmpInd 0x0310, []) ∧ decode [0x1E, 0x00, 0x02] = .ok (.aslAbx 0x0200, []) ∧
  decode [0x96, 0xFF] = .ok (.stxZpy 0xFF, []) ∧ decode [0xD0, 0xFB] = .ok (.bne 0xFB, []) ∧
  decode [0xE8] = .ok (.inx, []) ∧ decode [0x20, 0x34, 0x12] = .ok (.jsr 0x1234, [])

/-- When branchOffset gives a displacement for a branch at p with target t, p + 2 plus the sign-extended displacement is t; when it gives none, no displacement reaches t. The distance is taken modulo 65536: the model's reading of the spec's own inference (rule R99 is marked derived), log entry 9. -/
def Obligations.BranchOffsetReachesItsTarget : Prop :=
  ∀ p t : Addr,
    (∀ rel8, branchOffset p t = some rel8 → p + 2 + sext16 rel8 = t) ∧
    (branchOffset p t = none → ∀ rel8 : Byte, p + 2 + sext16 rel8 ≠ t)

/-- When the three bytes of storage at PC, PC + 1 and PC + 2 decode to an instruction, the step is exactly that instruction's meaning in the state whose IR is the byte at PC. IR before decoding is the spec's decision D9. -/
def Obligations.StepRunsTheDecodedInstruction : Prop :=
  ∀ (s : State) (i : Instr) (rest : List Byte),
    decode [s.read s.pc, s.read (s.pc + 1), s.read (s.pc + 2)] = .ok (i, rest) →
      step s = exec i { s with ir := s.read s.pc }

/-- In every state, the step has the outcome of the sequencer that follows rule R121 line by line with Decode, Resolve by mode and Execute by operation, operand bytes read from storage, and it leaves the same state, faulting or not. Lines 2 and 5 of R121 are the spec's decisions D9 and D2. -/
def Obligations.StepAgreesWithTheStepAlgorithm : Prop :=
  ∀ s : State, step s = (sequencer s).outcome ∧ s.afterStep = (sequencer s).after

/-- If the byte at PC is one of the 105 illegal ones, the step faults with UnknownOpcode, the byte and PC, and leaves the state with IR holding the byte and everything else as before (the spec's decision D8; the state after a fault is State.afterStep, log entry 5). -/
def Obligations.IllegalByteFaultsAndChangesOnlyIr : Prop :=
  ∀ s : State, (s.read s.pc).toNat ∈ illegalBytes →
    step s = .fault (.unknownOpcode (s.read s.pc) s.pc) ∧ s.afterStep = { s with ir := s.read s.pc }

/-- If the byte at PC decodes to a descriptor of class DECODE_ONLY, the step faults with UnimplementedOperation, its op, its mode and PC, and leaves the state with IR holding the byte and everything else as before (the spec's decisions D2 and D8; log entry 5). -/
def Obligations.DecodeOnlyByteFaultsAndChangesOnlyIr : Prop :=
  ∀ (s : State) (d : Descriptor), decodeByte (s.read s.pc) = some d → d.cls = .decodeOnly →
    step s = .fault (.unimplementedOperation d.op d.mode s.pc) ∧ s.afterStep = { s with ir := s.read s.pc }

/-- ORA, EOR, SBC, LSR, ROL, ROR: decode with the bytes, length and cycles of rules R251 to R256 and fault when stepped, in every form (the fault of rule R250 is the spec's decision D2, log entry 3). -/
def Obligations.DecodeOnlyLogicAndShiftsStop : Prop :=
  ∀ (s : State) (imm8 : Byte) (zp8 : Byte) (addr16 : Addr),
  StopForm (.oraImm imm8) [0x09, imm8] 2 .ora .imm s ∧
  StopForm (.oraZp zp8) [0x05, zp8] 3 .ora .zp s ∧
  StopForm (.oraZpx zp8) [0x15, zp8] 4 .ora .zpx s ∧
  StopForm (.oraAbs addr16) [0x0D, lowByte addr16, highByte addr16] 4 .ora .abs s ∧
  StopForm (.oraAbx addr16) [0x1D, lowByte addr16, highByte addr16] 4 .ora .abx s ∧
  StopForm (.oraAby addr16) [0x19, lowByte addr16, highByte addr16] 4 .ora .aby s ∧
  StopForm (.oraIzx zp8) [0x01, zp8] 6 .ora .izx s ∧
  StopForm (.oraIzy zp8) [0x11, zp8] 5 .ora .izy s ∧
  StopForm (.eorImm imm8) [0x49, imm8] 2 .eor .imm s ∧
  StopForm (.eorZp zp8) [0x45, zp8] 3 .eor .zp s ∧
  StopForm (.eorZpx zp8) [0x55, zp8] 4 .eor .zpx s ∧
  StopForm (.eorAbs addr16) [0x4D, lowByte addr16, highByte addr16] 4 .eor .abs s ∧
  StopForm (.eorAbx addr16) [0x5D, lowByte addr16, highByte addr16] 4 .eor .abx s ∧
  StopForm (.eorAby addr16) [0x59, lowByte addr16, highByte addr16] 4 .eor .aby s ∧
  StopForm (.eorIzx zp8) [0x41, zp8] 6 .eor .izx s ∧
  StopForm (.eorIzy zp8) [0x51, zp8] 5 .eor .izy s ∧
  StopForm (.sbcImm imm8) [0xE9, imm8] 2 .sbc .imm s ∧
  StopForm (.sbcZp zp8) [0xE5, zp8] 3 .sbc .zp s ∧
  StopForm (.sbcZpx zp8) [0xF5, zp8] 4 .sbc .zpx s ∧
  StopForm (.sbcAbs addr16) [0xED, lowByte addr16, highByte addr16] 4 .sbc .abs s ∧
  StopForm (.sbcAbx addr16) [0xFD, lowByte addr16, highByte addr16] 4 .sbc .abx s ∧
  StopForm (.sbcAby addr16) [0xF9, lowByte addr16, highByte addr16] 4 .sbc .aby s ∧
  StopForm (.sbcIzx zp8) [0xE1, zp8] 6 .sbc .izx s ∧
  StopForm (.sbcIzy zp8) [0xF1, zp8] 5 .sbc .izy s ∧
  StopForm .lsrAcc [0x4A] 2 .lsr .acc s ∧
  StopForm (.lsrZp zp8) [0x46, zp8] 5 .lsr .zp s ∧
  StopForm (.lsrZpx zp8) [0x56, zp8] 6 .lsr .zpx s ∧
  StopForm (.lsrAbs addr16) [0x4E, lowByte addr16, highByte addr16] 6 .lsr .abs s ∧
  StopForm (.lsrAbx addr16) [0x5E, lowByte addr16, highByte addr16] 7 .lsr .abx s ∧
  StopForm .rolAcc [0x2A] 2 .rol .acc s ∧
  StopForm (.rolZp zp8) [0x26, zp8] 5 .rol .zp s ∧
  StopForm (.rolZpx zp8) [0x36, zp8] 6 .rol .zpx s ∧
  StopForm (.rolAbs addr16) [0x2E, lowByte addr16, highByte addr16] 6 .rol .abs s ∧
  StopForm (.rolAbx addr16) [0x3E, lowByte addr16, highByte addr16] 7 .rol .abx s ∧
  StopForm .rorAcc [0x6A] 2 .ror .acc s ∧
  StopForm (.rorZp zp8) [0x66, zp8] 5 .ror .zp s ∧
  StopForm (.rorZpx zp8) [0x76, zp8] 6 .ror .zpx s ∧
  StopForm (.rorAbs addr16) [0x6E, lowByte addr16, highByte addr16] 6 .ror .abs s ∧
  StopForm (.rorAbx addr16) [0x7E, lowByte addr16, highByte addr16] 7 .ror .abx s

/-- TAX, TAY, TXA, TYA, TSX, TXS, PHA, PLA, PHP, PLP: decode with the bytes, length and cycles of rules R257 to R266 and fault when stepped, in every form (the fault of rule R250 is the spec's decision D2, log entry 3). -/
def Obligations.DecodeOnlyTransfersAndStackStop : Prop :=
  ∀ (s : State),
  StopForm .tax [0xAA] 2 .tax .imp s ∧
  StopForm .tay [0xA8] 2 .tay .imp s ∧
  StopForm .txa [0x8A] 2 .txa .imp s ∧
  StopForm .tya [0x98] 2 .tya .imp s ∧
  StopForm .tsx [0xBA] 2 .tsx .imp s ∧
  StopForm .txs [0x9A] 2 .txs .imp s ∧
  StopForm .pha [0x48] 3 .pha .imp s ∧
  StopForm .pla [0x68] 4 .pla .imp s ∧
  StopForm .php [0x08] 3 .php .imp s ∧
  StopForm .plp [0x28] 4 .plp .imp s

/-- JSR, RTS, RTI, BRK, NOP, CLC, SEC, CLI, SEI, CLV, CLD, SED: decode with the bytes, length and cycles of rules R267 to R278 and fault when stepped, in every form (the fault of rule R250 is the spec's decision D2, log entry 3; the length 1 of BRK is its decision D20, log entry 3). -/
def Obligations.DecodeOnlyCallsAndFlagChangesStop : Prop :=
  ∀ (s : State) (addr16 : Addr),
  StopForm (.jsr addr16) [0x20, lowByte addr16, highByte addr16] 6 .jsr .abs s ∧
  StopForm .rts [0x60] 6 .rts .imp s ∧
  StopForm .rti [0x40] 6 .rti .imp s ∧
  StopForm .brk [0x00] 7 .brk .imp s ∧
  StopForm .nop [0xEA] 2 .nop .imp s ∧
  StopForm .clc [0x18] 2 .clc .imp s ∧
  StopForm .sec [0x38] 2 .sec .imp s ∧
  StopForm .cli [0x58] 2 .cli .imp s ∧
  StopForm .sei [0x78] 2 .sei .imp s ∧
  StopForm .clv [0xB8] 2 .clv .imp s ∧
  StopForm .cld [0xD8] 2 .cld .imp s ∧
  StopForm .sed [0xF8] 2 .sed .imp s

/-- If a step faults, a step from the state it leaves raises the same fault and leaves that same state: a faulted core is at a fixed point (the spec's decision D8; log entry 5). -/
def Obligations.FaultRepeatsUntilStorageChanges : Prop :=
  ∀ (s : State) (f : Fault), step s = .fault f →
    step s.afterStep = .fault f ∧ s.afterStep.afterStep = s.afterStep

/-- Every step completes, or faults with UnknownOpcode for the byte at PC, or faults with UnimplementedOperation for the descriptor of the byte at PC; no step is refused and no other fault exists. -/
def Obligations.StepEndsInOneOfThreeWays : Prop :=
  ∀ s : State, (∃ t, step s = .next t) ∨ step s = .fault (.unknownOpcode (s.read s.pc) s.pc) ∨
    ∃ d, decodeByte (s.read s.pc) = some d ∧ step s = .fault (.unimplementedOperation d.op d.mode s.pc)

/-- The step completes if and only if the byte at PC decodes to a descriptor of class EXEC, whatever the operand bytes, registers, flags and storage hold. -/
def Obligations.StepCompletesExactlyOnExecutableOpcodes : Prop :=
  ∀ s : State, Completes s ↔ ∃ d, decodeByte (s.read s.pc) = some d ∧ d.cls = .exec

/-- After a completed step PC is PC plus the length for an instruction that is neither a branch nor JMP; PC + 2 for an untaken branch and PC plus the sign-extended displacement plus 2 for a taken one; the resolved address for JMP. -/
def Obligations.PcAdvancesAsTheSequencerSays : Prop :=
  ∀ (s t : State) (i : Instr), s.fetchDecode = some i → step s = .next t →
    (branchPredicate i.entry.op = none → i.entry.op ≠ .jmp → t.pc = s.pc + BitVec.ofNat 16 i.length) ∧
    (∀ taken, branchPredicate i.entry.op = some taken →
      t.pc = if taken s.flags then s.pc + sext16 (s.read (s.pc + 1)) + 2 else s.pc + 2) ∧
    (i.entry.op = .jmp → ∃ ea, resolve i.entry.mode s = .addr ea ∧ t.pc = ea)

/-- For every instruction that completes, JMP and branches included, taken or not, page crossed or not, CYC grows by the base cost of its table entry modulo 2^64. -/
def Obligations.CyclesGrowByTheBaseCost : Prop :=
  ∀ (s t : State) (i : Instr), s.fetchDecode = some i → step s = .next t →
    t.cyc.toNat = (s.cyc.toNat + i.cycles) % 2 ^ 64

/-- Every instruction is 1 to 3 bytes long and costs 2 to 7 cycles, and every step, faulting or not, makes at least 1 and at most 5 storage accesses. -/
def Obligations.LengthCostAndAccessesAreBounded : Prop :=
  (∀ i : Instr, 1 ≤ i.length ∧ i.length ≤ 3 ∧ 2 ≤ i.cycles ∧ i.cycles ≤ 7) ∧
  (∀ s : State, 1 ≤ (sequencer s).accesses.length ∧ (sequencer s).accesses.length ≤ 5)

/-- When an instruction completes, each of the seven flags that the matrix of rule R35 does not mark for its operation has the value it had before, and each flag it marks is written: its new value is the same whatever the flags were before. -/
def Obligations.FlagsChangeOnlyWhereTheMatrixSays : Prop :=
  ∀ (i : Instr) (s t : State), exec i s = .next t →
    ∀ k, k < 7 →
      ((flagsWritten i.entry.op)[k]? = some false → t.flags.asList[k]? = s.flags.asList[k]?) ∧
      ((flagsWritten i.entry.op)[k]? = some true → ∀ (old : Flags) (t' : State),
        exec i { s with flags := old } = .next t' → t'.flags.asList[k]? = t.flags.asList[k]?)

/-- When an instruction completes, A is unchanged unless it is LDA, ADC, AND or the accumulator form of ASL; X unless it is LDX, INX or DEX; Y unless it is LDY, INY or DEY; IR and the loader's cursor are unchanged always (IR is written by the fetch, before; the cursor is log entry 4). -/
def Obligations.RegistersChangeOnlyAsTheInventorySays : Prop :=
  ∀ (i : Instr) (s t : State), exec i s = .next t →
    (i.entry.op ∉ [Op.lda, Op.adc, Op.and] → i.entry ≠ ⟨.asl, .acc⟩ → t.a = s.a) ∧
    (i.entry.op ∉ [Op.ldx, Op.inx, Op.dex] → t.x = s.x) ∧
    (i.entry.op ∉ [Op.ldy, Op.iny, Op.dey] → t.y = s.y) ∧
    t.ir = s.ir ∧ t.cursor = s.cursor

/-- When an instruction completes, every address other than the one it stores to reads as before; for a form that stores nothing (every load, ADC, AND, BIT, compare, branch, jump and register form) every address does. -/
def Obligations.MemoryChangesOnlyAtTheStoreAddress : Prop :=
  ∀ (i : Instr) (s t : State), exec i s = .next t → ∀ p, storeAddress i s ≠ some p → t.read p = s.read p

/-- If B, D and I are 0 and memory is in its canonical form, both hold after a step that completes, after a step that faults, and after every move of the host: reset with any arguments, storage reads and writes, loading a program. -/
def Obligations.EveryMoveKeepsTheCoreInvariant : Prop :=
  (∀ s t : State, CoreInv s → step s = .next t → CoreInv t) ∧
  (∀ (s : State) (m : HostMove), CoreInv s → CoreInv (m.apply s).2)

/-- B, D and I are 0 and memory is canonical in the reset state and in every launch state: any A, X and Y, any initial contents of storage. -/
def Obligations.CoreInvariantHoldsAtLaunch : Prop :=
  CoreInv State.reset ∧ ∀ (ia ix iy : Byte) (memInit : Addr → Byte), CoreInv (State.launch ia ix iy memInit)

/-- Replacing IR, CYC, B, D and I by any values changes nothing about a step but those registers: it completes or faults the same, and a completed step gives the same A, X, Y, PC, IR, N, V, Z, C, memory and cursor, the same increase of CYC, and leaves the replaced B, D and I. -/
def Obligations.UnreadRegistersNeverInfluenceAStep : Prop :=
  ∀ (s : State) (ir : Byte) (cyc : CycleCount) (b d i : Bool),
    (∀ t, step s = .next t → step (s.withUnread ir cyc b d i) = .next (t.withUnread t.ir (cyc + (t.cyc - s.cyc)) b d i)) ∧
    (∀ f, step s = .fault f → step (s.withUnread ir cyc b d i) = .fault f)

/-- The first access of every step is the read at PC; a faulting step makes no other; a completed step makes one read for the opcode, one for each operand byte, two for the pointer of IND, IZX and IZY, then one data read at its effective address for LDA, LDX, LDY, ADC, AND, BIT, CMP, CPX, CPY, ASL, INC, DEC, then one data write there of the byte it leaves for STA, STX, STY, ASL, INC, DEC, and no data access in IMM, ACC and IMP or for a branch or JMP, as the table of rule R146 counts them; it makes them in that order, operand bytes in rising address order (the spec's decision D11, as is the lack of any other access). -/
def Obligations.AccessCountsAreThoseOfTheTable : Prop :=
  (∀ s : State, (sequencer s).accesses.head? = some (.read s.pc)) ∧
  (∀ (s : State) (f : Fault), step s = .fault f → (sequencer s).accesses = [.read s.pc]) ∧
  (∀ (s : State) (d : Descriptor), decodeByte (s.read s.pc) = some d → d.cls = .exec →
    readCount (sequencer s).accesses = 1 + d.mode.operandBytes + pointerReads d.mode + dataReads d ∧
    writeCount (sequencer s).accesses = dataWrites d ∧
    (∀ k, k ≤ d.mode.operandBytes → (sequencer s).accesses[k]? = some (.read (s.pc + BitVec.ofNat 16 k))) ∧
    ((sequencer s).accesses.drop (1 + d.mode.operandBytes)).take (pointerReads d.mode) = pointerAccesses d.mode s ∧
    (∀ ea, resolve d.mode s = .addr ea →
      (sequencer s).accesses.drop (1 + d.mode.operandBytes + pointerReads d.mode) =
        List.replicate (dataReads d) (.read ea) ++
          List.replicate (dataWrites d) (.write ea ((sequencer s).after.read ea))))

/-- The storage a step leaves, faulting or not, is the storage before it with the recorded write accesses made in order. -/
def Obligations.WritesAtThePortAccountForMemory : Prop :=
  ∀ s : State, s.afterStep.mem = replayWrites (sequencer s).accesses s.mem

/-- If a step completes and writes v at p, address p then reads v; and if p is the new PC, the next step puts v in IR and decodes it. -/
def Obligations.FetchSeesTheStoreOfTheStepBefore : Prop :=
  ∀ (s t : State) (p : Addr) (v : Byte), step s = .next t → Access.write p v ∈ (sequencer s).accesses →
    t.read p = v ∧ (p = t.pc → t.afterStep.ir = v ∧ t.fetchDecode = decodeAt v (t.read (p + 1)) (t.read (p + 2)))

/-- In ZP, ZPX and ZPY the effective address, and in IZX and IZY both pointer-byte addresses, lie in 0x0000 to 0x00FF. -/
def Obligations.ZeroPageAddressesStayInPageZero : Prop :=
  ∀ s : State,
    (∀ m ∈ [Mode.zp, Mode.zpx, Mode.zpy], ∃ ea, resolve m s = .addr ea ∧ ea.toNat ≤ 0x00FF) ∧
    (∀ m ∈ [Mode.izx, Mode.izy], ∃ lo hi : Addr, pointerAccesses m s = [.read lo, .read hi] ∧
      lo.toNat ≤ 0x00FF ∧ hi.toNat ≤ 0x00FF)

/-- The mode takes one operand byte, and its effective address is (operand(1) + X) mod 256 in page zero. -/
def Obligations.ZeroPageIndexingByXWraps : Prop :=
  Mode.zpx.operandBytes = 1 ∧
  ∀ s : State, operandAccesses .zpx s = [.read (s.pc + 1)] ∧ ∃ ea, resolve .zpx s = .addr ea ∧ ea.toNat = ((s.read (s.pc + 1)).toNat + s.x.toNat) % 256

/-- The mode takes two operand bytes, and its effective address has the first as its low byte and the second as its high byte; for JMP it is the target and no data access follows. -/
def Obligations.AbsoluteAddressIsLittleEndian : Prop :=
  Mode.abs.operandBytes = 2 ∧
  (∀ s : State, operandAccesses .abs s = [.read (s.pc + 1), .read (s.pc + 2)] ∧ ∃ ea, resolve .abs s = .addr ea ∧
    ea.toNat = (s.read (s.pc + 1)).toNat + 256 * (s.read (s.pc + 2)).toNat) ∧
  (∀ s : State, s.read s.pc = 0x4C →
    (sequencer s).after.pc = absOperand s ∧
    (sequencer s).accesses = [.read s.pc, .read (s.pc + 1), .read (s.pc + 2)])

/-- The mode takes one operand byte; its effective address has its low byte at zero-page slot z = (operand(1) + X) mod 256 and its high byte at slot (z + 1) mod 256, read in that order. -/
def Obligations.IndexedIndirectAddsXToThePointerLocation : Prop :=
  Mode.izx.operandBytes = 1 ∧
  ∀ s : State, operandAccesses .izx s = [.read (s.pc + 1)] ∧
    ∃ ea lo hi : Addr, resolve .izx s = .addr ea ∧ pointerAccesses .izx s = [.read lo, .read hi] ∧
    lo.toNat = ((s.read (s.pc + 1)).toNat + s.x.toNat) % 256 ∧ hi.toNat = (lo.toNat + 1) % 256 ∧
    ea.toNat = (s.read lo).toNat + 256 * (s.read hi).toNat

/-- IMP resolves to no operand, ACC to register A, IMM and REL to the address of the operand byte, ZP to the operand byte, ZPY to operand + Y modulo 256, ABX and ABY to the absolute address plus the index modulo 65536, IND to the pointer at p and p + 1 modulo 65536, IZY to the pointer in the zero-page slots z and (z + 1) mod 256 plus Y modulo 65536. IND reads its pointer at p and p + 1 modulo 65536 and IZY at z and (z + 1) mod 256, low byte first; no mode but these two and IZX reads a pointer. IMP and ACC read no operand byte, ABX, ABY and IND two, the others one. IMM and REL, IND, IZY rest on the spec's decisions D5, D6, D7, the order of the reads on D11, the wrap of ABX and ABY on its own inference. -/
def Obligations.OtherModesResolveAsTheirRulesSay : Prop :=
  ∀ s : State, resolve .imp s = .none ∧ resolve .acc s = .regA ∧
    resolve .imm s = .addr (s.pc + 1) ∧ resolve .rel s = .addr (s.pc + 1) ∧
    (∃ ea, resolve .zp s = .addr ea ∧ ea.toNat = natZp (s.read (s.pc + 1))) ∧
    (∃ ea, resolve .zpy s = .addr ea ∧ ea.toNat = natZpy (s.read (s.pc + 1)) s) ∧
    (∃ ea, resolve .abx s = .addr ea ∧ ea.toNat = natAbx (absOperand s) s) ∧
    (∃ ea, resolve .aby s = .addr ea ∧ ea.toNat = natAby (absOperand s) s) ∧
    (absOperand s).toNat = (s.read (s.pc + 1)).toNat + 256 * (s.read (s.pc + 2)).toNat ∧
    (∃ ea lo hi : Addr, resolve .ind s = .addr ea ∧ ea.toNat = natInd (absOperand s) s ∧
      pointerAccesses .ind s = [.read lo, .read hi] ∧ lo = absOperand s ∧ hi.toNat = (lo.toNat + 1) % 65536) ∧
    (∃ ea lo hi : Addr, resolve .izy s = .addr ea ∧ ea.toNat = natIzy (s.read (s.pc + 1)) s ∧
      pointerAccesses .izy s = [.read lo, .read hi] ∧
      lo.toNat = (s.read (s.pc + 1)).toNat ∧ hi.toNat = (lo.toNat + 1) % 256) ∧
    (∀ m, m ∉ [Mode.ind, .izx, .izy] → pointerAccesses m s = []) ∧
    (∀ m ∈ [Mode.imp, .acc], operandAccesses m s = []) ∧
    (∀ m ∈ [Mode.imm, .zp, .zpy, .izy, .rel], operandAccesses m s = [.read (s.pc + 1)]) ∧
    (∀ m ∈ [Mode.abx, .aby, .ind], operandAccesses m s = [.read (s.pc + 1), .read (s.pc + 2)])

/-- LDA in each of its eight modes has the bytes, length and cycles of its rule and completes with A the operand byte, PC and CYC advanced and everything else unchanged, N and Z included. -/
def Obligations.LdaLoadsItsOperandAndWritesNoFlag : Prop :=
  ∀ (s : State) (imm8 : Byte) (zp8 : Byte) (addr16 : Addr),
  Form (.ldaImm imm8) [0xA9, imm8] 2 s { s with a := imm8 } ∧
  Form (.ldaZp zp8) [0xA5, zp8] 3 s { s with a := (s.mem.read (natZp zp8)) } ∧
  Form (.ldaZpx zp8) [0xB5, zp8] 4 s { s with a := (s.mem.read (natZpx zp8 s)) } ∧
  Form (.ldaAbs addr16) [0xAD, lowByte addr16, highByte addr16] 4 s { s with a := (s.mem.read (natAbs addr16)) } ∧
  Form (.ldaAbx addr16) [0xBD, lowByte addr16, highByte addr16] 4 s { s with a := (s.mem.read (natAbx addr16 s)) } ∧
  Form (.ldaAby addr16) [0xB9, lowByte addr16, highByte addr16] 4 s { s with a := (s.mem.read (natAby addr16 s)) } ∧
  Form (.ldaIzx zp8) [0xA1, zp8] 6 s { s with a := (s.mem.read (natIzx zp8 s)) } ∧
  Form (.ldaIzy zp8) [0xB1, zp8] 5 s { s with a := (s.mem.read (natIzy zp8 s)) }

/-- LDX in each of its five modes has the bytes, length and cycles of its rule and completes with X the operand byte (the indexed forms use Y), PC and CYC advanced and everything else unchanged. -/
def Obligations.LdxLoadsItsOperandAndWritesNoFlag : Prop :=
  ∀ (s : State) (imm8 : Byte) (zp8 : Byte) (addr16 : Addr),
  Form (.ldxImm imm8) [0xA2, imm8] 2 s { s with x := imm8 } ∧
  Form (.ldxZp zp8) [0xA6, zp8] 3 s { s with x := (s.mem.read (natZp zp8)) } ∧
  Form (.ldxZpy zp8) [0xB6, zp8] 4 s { s with x := (s.mem.read (natZpy zp8 s)) } ∧
  Form (.ldxAbs addr16) [0xAE, lowByte addr16, highByte addr16] 4 s { s with x := (s.mem.read (natAbs addr16)) } ∧
  Form (.ldxAby addr16) [0xBE, lowByte addr16, highByte addr16] 4 s { s with x := (s.mem.read (natAby addr16 s)) }

/-- LDY in each of its five modes has the bytes, length and cycles of its rule and completes with Y the operand byte (the indexed forms use X), PC and CYC advanced and everything else unchanged. -/
def Obligations.LdyLoadsItsOperandAndWritesNoFlag : Prop :=
  ∀ (s : State) (imm8 : Byte) (zp8 : Byte) (addr16 : Addr),
  Form (.ldyImm imm8) [0xA0, imm8] 2 s { s with y := imm8 } ∧
  Form (.ldyZp zp8) [0xA4, zp8] 3 s { s with y := (s.mem.read (natZp zp8)) } ∧
  Form (.ldyZpx zp8) [0xB4, zp8] 4 s { s with y := (s.mem.read (natZpx zp8 s)) } ∧
  Form (.ldyAbs addr16) [0xAC, lowByte addr16, highByte addr16] 4 s { s with y := (s.mem.read (natAbs addr16)) } ∧
  Form (.ldyAbx addr16) [0xBC, lowByte addr16, highByte addr16] 4 s { s with y := (s.mem.read (natAbx addr16 s)) }

/-- STA in each of its seven modes has the bytes, length and cycles of its rule and completes with the byte at its effective address A, every other byte, register and flag unchanged, PC and CYC advanced; the address may be in any region; the store does not read that address first. -/
def Obligations.StaStoresAAndChangesNothingElse : Prop :=
  ∀ (s : State) (zp8 : Byte) (addr16 : Addr),
  StoreForm (.staZp zp8) [0x85, zp8] 3 s s (eaZp zp8) s.a ∧
  StoreForm (.staZpx zp8) [0x95, zp8] 4 s s (eaZpx zp8 s) s.a ∧
  StoreForm (.staAbs addr16) [0x8D, lowByte addr16, highByte addr16] 4 s s (eaAbs addr16) s.a ∧
  StoreForm (.staAbx addr16) [0x9D, lowByte addr16, highByte addr16] 5 s s (eaAbx addr16 s) s.a ∧
  StoreForm (.staAby addr16) [0x99, lowByte addr16, highByte addr16] 5 s s (eaAby addr16 s) s.a ∧
  StoreForm (.staIzx zp8) [0x81, zp8] 6 s s (eaIzx zp8 s) s.a ∧
  StoreForm (.staIzy zp8) [0x91, zp8] 6 s s (eaIzy zp8 s) s.a ∧
  (∀ (d : Descriptor) (after : State), d.op = .sta → ∀ p, Access.read p ∉ dataAccesses d s after)

/-- STX in each of its three modes has the bytes, length and cycles of its rule and completes with the byte at its effective address X, every other byte, register and flag unchanged, PC and CYC advanced. -/
def Obligations.StxStoresXAndChangesNothingElse : Prop :=
  ∀ (s : State) (zp8 : Byte) (addr16 : Addr),
  StoreForm (.stxZp zp8) [0x86, zp8] 3 s s (eaZp zp8) s.x ∧
  StoreForm (.stxZpy zp8) [0x96, zp8] 4 s s (eaZpy zp8 s) s.x ∧
  StoreForm (.stxAbs addr16) [0x8E, lowByte addr16, highByte addr16] 4 s s (eaAbs addr16) s.x

/-- STY in each of its three modes has the bytes, length and cycles of its rule and completes with the byte at its effective address Y, every other byte, register and flag unchanged, PC and CYC advanced. -/
def Obligations.StyStoresYAndChangesNothingElse : Prop :=
  ∀ (s : State) (zp8 : Byte) (addr16 : Addr),
  StoreForm (.styZp zp8) [0x84, zp8] 3 s s (eaZp zp8) s.y ∧
  StoreForm (.styZpx zp8) [0x94, zp8] 4 s s (eaZpx zp8 s) s.y ∧
  StoreForm (.styAbs addr16) [0x8C, lowByte addr16, highByte addr16] 4 s s (eaAbs addr16) s.y

/-- The state ADC leaves before PC and CYC advance, in exact arithmetic (42_arith_logic.md R180): the sum of two terms, whatever
the carry flag held. -/
def Sys2Proof.Machine.State.afterAdd (s : State) (m : Byte) : State :=
  let sum := s.a.toNat + m.toNat
  { s with
    a := BitVec.ofNat 8 (sum % 256)
    flags := { s.flags with
      n := decide (128 ≤ sum % 256)
      v := decide ((128 ≤ s.a.toNat ↔ 128 ≤ m.toNat) ∧ ¬ (128 ≤ sum % 256 ↔ 128 ≤ s.a.toNat))
      z := decide (sum % 256 = 0)
      c := decide (256 ≤ sum) } }

/-- ADC in each of its eight modes has the bytes, length and cycles of its rule and completes with A the sum of A and the operand modulo 256, C set iff the exact sum is 256 or more, Z iff the result is 0, N from its bit 7, V iff the operands share a sign bit that the result does not; the carry flag and D are not read (the spec's decision D3, log entry 3), B, D, I and everything else unchanged. -/
def Obligations.AdcAddsTwoTermsAndSetsNvzc : Prop :=
  ∀ (s : State) (imm8 : Byte) (zp8 : Byte) (addr16 : Addr),
  Form (.adcImm imm8) [0x69, imm8] 2 s (s.afterAdd imm8) ∧
  Form (.adcZp zp8) [0x65, zp8] 3 s (s.afterAdd (s.mem.read (natZp zp8))) ∧
  Form (.adcZpx zp8) [0x75, zp8] 4 s (s.afterAdd (s.mem.read (natZpx zp8 s))) ∧
  Form (.adcAbs addr16) [0x6D, lowByte addr16, highByte addr16] 4 s (s.afterAdd (s.mem.read (natAbs addr16))) ∧
  Form (.adcAbx addr16) [0x7D, lowByte addr16, highByte addr16] 4 s (s.afterAdd (s.mem.read (natAbx addr16 s))) ∧
  Form (.adcAby addr16) [0x79, lowByte addr16, highByte addr16] 4 s (s.afterAdd (s.mem.read (natAby addr16 s))) ∧
  Form (.adcIzx zp8) [0x61, zp8] 6 s (s.afterAdd (s.mem.read (natIzx zp8 s))) ∧
  Form (.adcIzy zp8) [0x71, zp8] 5 s (s.afterAdd (s.mem.read (natIzy zp8 s)))

/-- For all pairs of bytes, the overflow flag ADC computes is set exactly when the sum of the two bytes read as signed numbers lies outside -128 to +127. -/
def Obligations.AdcOverflowIsSignedRangeOverflow : Prop :=
  ∀ (f : Flags) (a0 m : Byte), (f.adc a0 m).v = true ↔ a0.toInt + m.toInt < -128 ∨ 127 < a0.toInt + m.toInt

/-- The state AND leaves before PC and CYC advance (42_arith_logic.md R181). -/
def Sys2Proof.Machine.State.afterAnd (s : State) (m : Byte) : State :=
  { s with
    a := s.a &&& m
    flags := { s.flags with n := decide (128 ≤ (s.a &&& m).toNat), z := decide (s.a &&& m = 0) } }

/-- The state BIT leaves before PC and CYC advance (42_arith_logic.md R182). -/
def Sys2Proof.Machine.State.afterBit (s : State) (m : Byte) : State :=
  { s with flags := { s.flags with
      n := decide (128 ≤ m.toNat)
      v := decide (64 ≤ m.toNat % 128)
      z := decide (s.a &&& m = 0) } }

/-- AND in each of its eight modes has the bytes, length and cycles of its rule and completes with A the bitwise AND of A and the operand, Z iff it is 0, N its bit 7, V, C and everything else unchanged. -/
def Obligations.AndMasksAAndSetsNz : Prop :=
  ∀ (s : State) (imm8 : Byte) (zp8 : Byte) (addr16 : Addr),
  Form (.andImm imm8) [0x29, imm8] 2 s (s.afterAnd imm8) ∧
  Form (.andZp zp8) [0x25, zp8] 3 s (s.afterAnd (s.mem.read (natZp zp8))) ∧
  Form (.andZpx zp8) [0x35, zp8] 4 s (s.afterAnd (s.mem.read (natZpx zp8 s))) ∧
  Form (.andAbs addr16) [0x2D, lowByte addr16, highByte addr16] 4 s (s.afterAnd (s.mem.read (natAbs addr16))) ∧
  Form (.andAbx addr16) [0x3D, lowByte addr16, highByte addr16] 4 s (s.afterAnd (s.mem.read (natAbx addr16 s))) ∧
  Form (.andAby addr16) [0x39, lowByte addr16, highByte addr16] 4 s (s.afterAnd (s.mem.read (natAby addr16 s))) ∧
  Form (.andIzx zp8) [0x21, zp8] 6 s (s.afterAnd (s.mem.read (natIzx zp8 s))) ∧
  Form (.andIzy zp8) [0x31, zp8] 5 s (s.afterAnd (s.mem.read (natIzy zp8 s)))

/-- BIT in both modes has the bytes, length and cycles of its rule and completes with N and V the operand's bits 7 and 6, Z iff A and the operand have no bit in common; C, A, storage and everything else unchanged. -/
def Obligations.BitTestsMemoryAndSetsNvz : Prop :=
  ∀ (s : State) (zp8 : Byte) (addr16 : Addr),
  Form (.bitZp zp8) [0x24, zp8] 3 s (s.afterBit (s.mem.read (natZp zp8))) ∧
  Form (.bitAbs addr16) [0x2C, lowByte addr16, highByte addr16] 4 s (s.afterBit (s.mem.read (natAbs addr16)))

/-- The flags ASL leaves for the pre-shift value `v` (43_shift_incdec.md R200). -/
def Sys2Proof.Machine.Flags.afterShift (f : Flags) (v : Byte) : Flags :=
  { f with
    n := decide (128 ≤ v.toNat * 2 % 256)
    z := decide (v.toNat * 2 % 256 = 0)
    c := decide (128 ≤ v.toNat) }

/-- The byte ASL leaves for the pre-shift value `v` (43_shift_incdec.md R200). -/
def Sys2Proof.Machine.shifted (v : Byte) : Byte := BitVec.ofNat 8 (v.toNat * 2 % 256)

/-- ASL in its accumulator form and its four memory forms has the bytes, length and cycles of its rule and completes with the operand doubled modulo 256 in place, C the pre-shift bit 7, Z and N from the result; V, in a memory form A, every other byte and everything else unchanged; a memory form reads its address once and writes it once. -/
def Obligations.AslShiftsLeftAndSetsNzc : Prop :=
  ∀ (s : State) (zp8 : Byte) (addr16 : Addr),
  Form .aslAcc [0x0A] 2 s { s with a := shifted s.a, flags := s.flags.afterShift s.a } ∧
  StoreForm (.aslZp zp8) [0x06, zp8] 5 s { s with flags := s.flags.afterShift (s.read (eaZp zp8)) } (eaZp zp8) (shifted (s.read (eaZp zp8))) ∧
  StoreForm (.aslZpx zp8) [0x16, zp8] 6 s { s with flags := s.flags.afterShift (s.read (eaZpx zp8 s)) } (eaZpx zp8 s) (shifted (s.read (eaZpx zp8 s))) ∧
  StoreForm (.aslAbs addr16) [0x0E, lowByte addr16, highByte addr16] 6 s { s with flags := s.flags.afterShift (s.read (eaAbs addr16)) } (eaAbs addr16) (shifted (s.read (eaAbs addr16))) ∧
  StoreForm (.aslAbx addr16) [0x1E, lowByte addr16, highByte addr16] 7 s { s with flags := s.flags.afterShift (s.read (eaAbx addr16 s)) } (eaAbx addr16 s) (shifted (s.read (eaAbx addr16 s))) ∧
  (∀ (d : Descriptor) (after : State) (ea : Addr), d.op = .asl → resolve d.mode s = .addr ea →
    dataAccesses d s after = [.read ea, .write ea (after.read ea)])

/-- INC and DEC in each of their four modes have the bytes, length and cycles of their rules and complete with the byte at the effective address plus or minus 1 modulo 256, no flag, no register but PC and CYC and no other byte changed (no flag: the spec's decision D4). -/
def Obligations.IncAndDecChangeOneByteAndNoFlag : Prop :=
  ∀ (s : State) (zp8 : Byte) (addr16 : Addr),
  StoreForm (.incZp zp8) [0xE6, zp8] 5 s s (eaZp zp8) (BitVec.ofNat 8 ((s.read (eaZp zp8)).toNat + 1)) ∧
  StoreForm (.incZpx zp8) [0xF6, zp8] 6 s s (eaZpx zp8 s) (BitVec.ofNat 8 ((s.read (eaZpx zp8 s)).toNat + 1)) ∧
  StoreForm (.incAbs addr16) [0xEE, lowByte addr16, highByte addr16] 6 s s (eaAbs addr16) (BitVec.ofNat 8 ((s.read (eaAbs addr16)).toNat + 1)) ∧
  StoreForm (.incAbx addr16) [0xFE, lowByte addr16, highByte addr16] 7 s s (eaAbx addr16 s) (BitVec.ofNat 8 ((s.read (eaAbx addr16 s)).toNat + 1)) ∧
  StoreForm (.decZp zp8) [0xC6, zp8] 5 s s (eaZp zp8) (BitVec.ofNat 8 ((s.read (eaZp zp8)).toNat + 255)) ∧
  StoreForm (.decZpx zp8) [0xD6, zp8] 6 s s (eaZpx zp8 s) (BitVec.ofNat 8 ((s.read (eaZpx zp8 s)).toNat + 255)) ∧
  StoreForm (.decAbs addr16) [0xCE, lowByte addr16, highByte addr16] 6 s s (eaAbs addr16) (BitVec.ofNat 8 ((s.read (eaAbs addr16)).toNat + 255)) ∧
  StoreForm (.decAbx addr16) [0xDE, lowByte addr16, highByte addr16] 7 s s (eaAbx addr16 s) (BitVec.ofNat 8 ((s.read (eaAbx addr16 s)).toNat + 255))

/-- Each has the byte, length and cycles of its rule and completes with its index register plus or minus 1 modulo 256 and everything else unchanged but PC and CYC (no flag: the spec's decision D4). -/
def Obligations.IndexIncrementsAndDecrementsWrapAndWriteNoFlag : Prop :=
  ∀ s : State,
  Form .inx [0xE8] 2 s { s with x := BitVec.ofNat 8 (s.x.toNat + 1) } ∧
  Form .iny [0xC8] 2 s { s with y := BitVec.ofNat 8 (s.y.toNat + 1) } ∧
  Form .dex [0xCA] 2 s { s with x := BitVec.ofNat 8 (s.x.toNat + 255) } ∧
  Form .dey [0x88] 2 s { s with y := BitVec.ofNat 8 (s.y.toNat + 255) }

/-- The flags `Compare(r, m)` leaves (44_compare.md R220). -/
def Sys2Proof.Machine.Flags.afterCompare (f : Flags) (r m : Byte) : Flags :=
  { f with
    n := decide (128 ≤ (r.toNat + 256 - m.toNat) % 256)
    z := decide (r = m)
    c := decide (m.toNat ≤ r.toNat) }

/-- CMP in eight modes, CPX and CPY in three have the bytes, length and cycles of their rules and complete with C iff register >= operand unsigned, Z iff they are equal, N bit 7 of the difference modulo 256; the register, V, storage and everything else unchanged. -/
def Obligations.ComparesSetNzcAndWriteNothingElse : Prop :=
  ∀ (s : State) (imm8 : Byte) (zp8 : Byte) (addr16 : Addr),
  Form (.cmpImm imm8) [0xC9, imm8] 2 s { s with flags := s.flags.afterCompare s.a imm8 } ∧
  Form (.cmpZp zp8) [0xC5, zp8] 3 s { s with flags := s.flags.afterCompare s.a (s.mem.read (natZp zp8)) } ∧
  Form (.cmpZpx zp8) [0xD5, zp8] 4 s { s with flags := s.flags.afterCompare s.a (s.mem.read (natZpx zp8 s)) } ∧
  Form (.cmpAbs addr16) [0xCD, lowByte addr16, highByte addr16] 4 s { s with flags := s.flags.afterCompare s.a (s.mem.read (natAbs addr16)) } ∧
  Form (.cmpAbx addr16) [0xDD, lowByte addr16, highByte addr16] 4 s { s with flags := s.flags.afterCompare s.a (s.mem.read (natAbx addr16 s)) } ∧
  Form (.cmpAby addr16) [0xD9, lowByte addr16, highByte addr16] 4 s { s with flags := s.flags.afterCompare s.a (s.mem.read (natAby addr16 s)) } ∧
  Form (.cmpIzx zp8) [0xC1, zp8] 6 s { s with flags := s.flags.afterCompare s.a (s.mem.read (natIzx zp8 s)) } ∧
  Form (.cmpIzy zp8) [0xD1, zp8] 5 s { s with flags := s.flags.afterCompare s.a (s.mem.read (natIzy zp8 s)) } ∧
  Form (.cpxImm imm8) [0xE0, imm8] 2 s { s with flags := s.flags.afterCompare s.x imm8 } ∧
  Form (.cpxZp zp8) [0xE4, zp8] 3 s { s with flags := s.flags.afterCompare s.x (s.mem.read (natZp zp8)) } ∧
  Form (.cpxAbs addr16) [0xEC, lowByte addr16, highByte addr16] 4 s { s with flags := s.flags.afterCompare s.x (s.mem.read (natAbs addr16)) } ∧
  Form (.cpyImm imm8) [0xC0, imm8] 2 s { s with flags := s.flags.afterCompare s.y imm8 } ∧
  Form (.cpyZp zp8) [0xC4, zp8] 3 s { s with flags := s.flags.afterCompare s.y (s.mem.read (natZp zp8)) } ∧
  Form (.cpyAbs addr16) [0xCC, lowByte addr16, highByte addr16] 4 s { s with flags := s.flags.afterCompare s.y (s.mem.read (natAbs addr16)) }

/-- For all 65536 pairs of register and operand: Z implies C and not N, not C implies not Z, and C and Z say register >= operand and register = operand. The two implications are the spec's own inference. -/
def Obligations.CompareFlagsFollowTheUnsignedOrder : Prop :=
  ∀ (f : Flags) (r m : Byte),
    ((f.compare r m).z = true → (f.compare r m).c = true ∧ (f.compare r m).n = false) ∧
    ((f.compare r m).c = false → (f.compare r m).z = false) ∧
    ((f.compare r m).c = true ↔ r ≥ m) ∧ ((f.compare r m).z = true ↔ r.toNat = m.toNat)

/-- Each branch has the bytes of its rule and completes, taken exactly when its flag has the value its rule names: PC becomes PC + 2 plus the signed displacement modulo 65536 when taken and PC + 2 when not, CYC grows by 2 either way, and nothing else changes. -/
def Obligations.BranchesFollowTheirFlagWithASignedDisplacement : Prop :=
  ∀ (s : State) (rel8 : Byte),
  BranchForm (.bpl rel8) 0x10 rel8 (!s.flags.n) s ∧
  BranchForm (.bmi rel8) 0x30 rel8 s.flags.n s ∧
  BranchForm (.bvc rel8) 0x50 rel8 (!s.flags.v) s ∧
  BranchForm (.bvs rel8) 0x70 rel8 s.flags.v s ∧
  BranchForm (.bcc rel8) 0x90 rel8 (!s.flags.c) s ∧
  BranchForm (.bcs rel8) 0xB0 rel8 s.flags.c s ∧
  BranchForm (.bne rel8) 0xD0 rel8 (!s.flags.z) s ∧
  BranchForm (.beq rel8) 0xF0 rel8 s.flags.z s

/-- JMP absolute and indirect have the bytes, length and cycles of their rule and complete with PC the operand, or the pointer at p and p + 1 modulo 65536, CYC advanced by 3 or 5, and everything else unchanged; no data access is made at the target. -/
def Obligations.JmpGoesToTheResolvedAddress : Prop :=
  ∀ (s : State) (addr16 : Addr),
  encode (.jmpAbs addr16) = [0x4C, lowByte addr16, highByte addr16] ∧
  exec (.jmpAbs addr16) s = .next { s with pc := addr16, cyc := s.cyc + 3 } ∧
  encode (.jmpInd addr16) = [0x6C, lowByte addr16, highByte addr16] ∧
  exec (.jmpInd addr16) s = .next { s with pc := BitVec.ofNat 16 (natInd addr16 s), cyc := s.cyc + 5 } ∧
  (∀ (d : Descriptor) (after : State), d.op = .jmp → dataAccesses d s after = [])

/-- The reset move sets A, X, Y to its arguments, PC to 0x8000, IR and CYC to 0, every flag to false, and changes neither storage nor the cursor, from any state; the reset state has PC 0x8000, IR 0, flags false, CYC 0. IR is the spec's decision D9, a second reset D25. -/
def Obligations.ResetSetsTheCoreAndLeavesStorage : Prop :=
  (∀ (s : State) (ia ix iy : Byte), (HostMove.reset ia ix iy).apply s =
    (.done,
      { a := ia, x := ix, y := iy, pc := 0x8000, ir := 0,
        flags := { n := false, v := false, b := false, d := false, i := false, z := false, c := false },
        cyc := 0, mem := s.mem, cursor := s.cursor })) ∧
  State.reset.pc = 0x8000 ∧ State.reset.ir = 0 ∧ State.reset.cyc = 0 ∧ State.reset.flags.asList = List.replicate 7 false

/-- For any function from addresses to bytes, the launched machine reads that function's byte at every address, and its A, X and Y are the arguments of reset: MEM_INIT and INIT_A, INIT_X, INIT_Y are open, as the spec's decision D13 leaves them. -/
def Obligations.LaunchHoldsAnyInitialStorage : Prop :=
  ∀ (ia ix iy : Byte) (memInit : Addr → Byte),
    (∀ p, (State.launch ia ix iy memInit).read p = memInit p) ∧
    (State.launch ia ix iy memInit).a = ia ∧ (State.launch ia ix iy memInit).x = ix ∧
    (State.launch ia ix iy memInit).y = iy ∧ (State.launch ia ix iy memInit).pc = 0x8000

/-- A load that keeps the cursor at or below 0xFFFF puts byte k at cursor + k, leaves every other byte and every register alone and moves the cursor by the length; any other load is refused and changes nothing (the spec's decision D19; where exactly the limit lies is log entry 4). -/
def Obligations.LoadSequentialAppendsAtTheCursor : Prop :=
  ∀ (s : State) (bytes : List Byte),
    (s.cursor.toNat + bytes.length ≤ 0xFFFF → ∃ t, (HostMove.loadSequential bytes).apply s = (.done, t) ∧
      (∀ k (h : k < bytes.length), t.read (s.cursor + BitVec.ofNat 16 k) = bytes[k]) ∧
      (∀ p, (∀ k, k < bytes.length → p ≠ s.cursor + BitVec.ofNat 16 k) → t.read p = s.read p) ∧
      t.cursor.toNat = s.cursor.toNat + bytes.length ∧ t = { s with mem := t.mem, cursor := t.cursor }) ∧
    (0xFFFF < s.cursor.toNat + bytes.length →
      (HostMove.loadSequential bytes).apply s = (.refused (.loadPastTop s.cursor bytes.length), s))

/-- After a host write of v at p, p reads v, every other address reads as before and every register, flag, CYC and the cursor are unchanged; a host read answers the byte and changes nothing. -/
def Obligations.HostWritesReachStorageAndNothingElse : Prop :=
  ∀ (s : State) (p : Addr) (v : Byte), (HostMove.read p).apply s = (.byte (s.read p), s) ∧
    ∃ t, (HostMove.write p v).apply s = (.done, t) ∧ t.read p = v ∧ (∀ q, q ≠ p → t.read q = s.read q) ∧
      t = { s with mem := t.mem }

/-- Every step move answers a status whose code is 0 exactly when the step completes, 1 exactly when the byte at PC is illegal, 2 exactly when it is decode-only (the numbering is the spec's decision D17). -/
def Obligations.StatusPortTellsTheOutcomeOfTheStep : Prop :=
  ∀ s : State, ∃ st, (HostMove.step.apply s).1 = .stepped st ∧ (st.code = 0 ↔ Completes s) ∧
    (st.code = 1 ↔ (s.read s.pc).toNat ∈ illegalBytes) ∧
    (st.code = 2 ↔ ∃ d, decodeByte (s.read s.pc) = some d ∧ d.cls = .decodeOnly)

/-- The address map has the six rows of the rule with their first and last addresses and sizes, and every 16-bit address lies in exactly one of them. -/
def Obligations.RegionsTileTheAddressSpace : Prop :=
  Config.addressMap.map (fun r => (r.region, r.first, r.last, r.last + 1 - r.first)) =
    [(.zeroPage, 0x0000, 0x00FF, 256), (.stack, 0x0100, 0x01FF, 256), (.programRam, 0x0200, 0x3FFF, 15872),
     (.mmio, 0x4000, 0x7FFF, 16384), (.programRom, 0x8000, 0xFFF9, 32762), (.vectors, 0xFFFA, 0xFFFF, 6)] ∧
  ∀ p : Addr, ∃ r ∈ Config.addressMap, (r.first ≤ p.toNat ∧ p.toNat ≤ r.last) ∧ Config.regionOf p = some r.region ∧
    ∀ r' ∈ Config.addressMap, (r'.first ≤ p.toNat ∧ p.toNat ≤ r'.last) → r' = r
end

