-- ==== Sys2Proof/Laws/Decode.lean ====
section
/-! SUPPORT. Byte order, and what the decoder's answer says of the bytes it was given (30_encoding.md rules R83, R84, R91). -/

namespace Sys2Proof

/-! ### Byte order -/

theorem word16_getLsbD (lo hi : Byte) (k : Nat) :
    (word16 lo hi).getLsbD k = if k < 8 then lo.getLsbD k else (decide (k < 16) && hi.getLsbD (k - 8)) := by
  by_cases h : k < 8
  · have : k < 16 := by omega
    simp [word16, h, this]
  · by_cases h' : k < 16
    · simp [word16, h, h', BitVec.getLsbD_of_ge lo k (by omega)]
    · simp [word16, h, h']

theorem lowByte_getLsbD (w : Addr) {k : Nat} (hk : k < 8) : (lowByte w).getLsbD k = w.getLsbD k := by
  rw [lowByte, BitVec.getLsbD_extractLsb', Nat.zero_add, decide_eq_true hk, Bool.true_and]

theorem highByte_getLsbD (w : Addr) {k : Nat} (hk : k < 8) : (highByte w).getLsbD k = w.getLsbD (8 + k) := by
  rw [highByte, BitVec.getLsbD_extractLsb', decide_eq_true hk, Bool.true_and]

@[simp] theorem lowByte_word16 (lo hi : Byte) : lowByte (word16 lo hi) = lo := by
  apply BitVec.eq_of_getLsbD_eq
  intro k hk
  rw [lowByte_getLsbD _ hk, word16_getLsbD, if_pos hk]

@[simp] theorem highByte_word16 (lo hi : Byte) : highByte (word16 lo hi) = hi := by
  apply BitVec.eq_of_getLsbD_eq
  intro k hk
  rw [highByte_getLsbD _ hk, word16_getLsbD, if_neg (by omega), decide_eq_true (by omega : 8 + k < 16),
    Bool.true_and, Nat.add_sub_cancel_left]

@[simp] theorem word16_low_high (w : Addr) : word16 (lowByte w) (highByte w) = w := by
  apply BitVec.eq_of_getLsbD_eq
  intro k hk
  rw [word16_getLsbD]
  split
  · next h => exact lowByte_getLsbD w h
  · next h =>
    rw [highByte_getLsbD w (by omega), decide_eq_true hk, Bool.true_and, Nat.add_sub_cancel' (by omega)]

/-- The value of a little-endian pair (20_memory.md R57). -/
theorem word16_toNat (lo hi : Byte) : (word16 lo hi).toNat = lo.toNat + 256 * hi.toNat := by
  have h := lo.isLt
  have hh := hi.isLt
  have hm : hi.toNat <<< 8 % 65536 = 256 * hi.toNat := by rw [Nat.shiftLeft_eq]; omega
  simp only [word16, BitVec.toNat_or, BitVec.toNat_shiftLeft, BitVec.toNat_setWidth]
  rw [Nat.mod_eq_of_lt (by omega : lo.toNat < 2 ^ 16), Nat.mod_eq_of_lt (by omega : hi.toNat < 2 ^ 16), hm, Nat.or_comm,
    ← Nat.two_pow_add_eq_or_of_lt h]
  omega

/-! ### The operand list has the mode's length -/

theorem Instr.operands_length (i : Instr) : i.operands.length = i.entry.mode.operandBytes := by
  cases i <;> rfl

theorem encode_length (i : Instr) : (encode i).length = i.length := by
  simp [encode, Instr.length, Instr.operands_length, Nat.add_comm]

/-! ### Decoding -/

/-- What the decoder answers has the opcode byte it was given, and as operand bytes the ones that follow it. -/
theorem decodeAt_some {b0 b1 b2 : Byte} {i : Instr} (h : decodeAt b0 b1 b2 = some i) :
    i.opcode = b0 ∧ i.operands = [b1, b2].take i.entry.mode.operandBytes := by
  unfold decodeAt at h
  split at h <;> first
    | (next hb =>
        cases h
        exact ⟨BitVec.eq_of_toNat_eq hb.symm, by simp [Instr.operands, Instr.entry, Mode.operandBytes]⟩)
    | cases h

/-- Only the opcode byte decides whether a byte sequence is an instruction, and which row of the table it is. -/
theorem decodeAt_descriptor (b0 b1 b2 : Byte) : (decodeAt b0 b1 b2).map Instr.descriptor = decodeByte b0 := by
  unfold decodeByte decodeAt
  split <;> rfl

end Sys2Proof
end

