-- ==== Sys2Proof/Laws/State.lean ====
section
/-! SUPPORT. What each state update leaves in each field: one lemma per field per update, true by rfl, so that no later proof
unfolds a record update; the same for the flag computations. -/

namespace Sys2Proof.Machine

@[simp] theorem State.setA_a (s : State) (v : Byte) : (s.setA v).a = v := rfl
@[simp] theorem State.setA_x (s : State) (v : Byte) : (s.setA v).x = s.x := rfl
@[simp] theorem State.setA_y (s : State) (v : Byte) : (s.setA v).y = s.y := rfl
@[simp] theorem State.setA_pc (s : State) (v : Byte) : (s.setA v).pc = s.pc := rfl
@[simp] theorem State.setA_ir (s : State) (v : Byte) : (s.setA v).ir = s.ir := rfl
@[simp] theorem State.setA_flags (s : State) (v : Byte) : (s.setA v).flags = s.flags := rfl
@[simp] theorem State.setA_cyc (s : State) (v : Byte) : (s.setA v).cyc = s.cyc := rfl
@[simp] theorem State.setA_mem (s : State) (v : Byte) : (s.setA v).mem = s.mem := rfl
@[simp] theorem State.setA_cursor (s : State) (v : Byte) : (s.setA v).cursor = s.cursor := rfl
@[simp] theorem State.setA_read (s : State) (v : Byte) (q : Addr) : (s.setA v).read q = s.read q := rfl

@[simp] theorem State.setX_a (s : State) (v : Byte) : (s.setX v).a = s.a := rfl
@[simp] theorem State.setX_x (s : State) (v : Byte) : (s.setX v).x = v := rfl
@[simp] theorem State.setX_y (s : State) (v : Byte) : (s.setX v).y = s.y := rfl
@[simp] theorem State.setX_pc (s : State) (v : Byte) : (s.setX v).pc = s.pc := rfl
@[simp] theorem State.setX_ir (s : State) (v : Byte) : (s.setX v).ir = s.ir := rfl
@[simp] theorem State.setX_flags (s : State) (v : Byte) : (s.setX v).flags = s.flags := rfl
@[simp] theorem State.setX_cyc (s : State) (v : Byte) : (s.setX v).cyc = s.cyc := rfl
@[simp] theorem State.setX_mem (s : State) (v : Byte) : (s.setX v).mem = s.mem := rfl
@[simp] theorem State.setX_cursor (s : State) (v : Byte) : (s.setX v).cursor = s.cursor := rfl
@[simp] theorem State.setX_read (s : State) (v : Byte) (q : Addr) : (s.setX v).read q = s.read q := rfl

@[simp] theorem State.setY_a (s : State) (v : Byte) : (s.setY v).a = s.a := rfl
@[simp] theorem State.setY_x (s : State) (v : Byte) : (s.setY v).x = s.x := rfl
@[simp] theorem State.setY_y (s : State) (v : Byte) : (s.setY v).y = v := rfl
@[simp] theorem State.setY_pc (s : State) (v : Byte) : (s.setY v).pc = s.pc := rfl
@[simp] theorem State.setY_ir (s : State) (v : Byte) : (s.setY v).ir = s.ir := rfl
@[simp] theorem State.setY_flags (s : State) (v : Byte) : (s.setY v).flags = s.flags := rfl
@[simp] theorem State.setY_cyc (s : State) (v : Byte) : (s.setY v).cyc = s.cyc := rfl
@[simp] theorem State.setY_mem (s : State) (v : Byte) : (s.setY v).mem = s.mem := rfl
@[simp] theorem State.setY_cursor (s : State) (v : Byte) : (s.setY v).cursor = s.cursor := rfl
@[simp] theorem State.setY_read (s : State) (v : Byte) (q : Addr) : (s.setY v).read q = s.read q := rfl

@[simp] theorem State.setPc_a (s : State) (v : Addr) : (s.setPc v).a = s.a := rfl
@[simp] theorem State.setPc_x (s : State) (v : Addr) : (s.setPc v).x = s.x := rfl
@[simp] theorem State.setPc_y (s : State) (v : Addr) : (s.setPc v).y = s.y := rfl
@[simp] theorem State.setPc_pc (s : State) (v : Addr) : (s.setPc v).pc = v := rfl
@[simp] theorem State.setPc_ir (s : State) (v : Addr) : (s.setPc v).ir = s.ir := rfl
@[simp] theorem State.setPc_flags (s : State) (v : Addr) : (s.setPc v).flags = s.flags := rfl
@[simp] theorem State.setPc_cyc (s : State) (v : Addr) : (s.setPc v).cyc = s.cyc := rfl
@[simp] theorem State.setPc_mem (s : State) (v : Addr) : (s.setPc v).mem = s.mem := rfl
@[simp] theorem State.setPc_cursor (s : State) (v : Addr) : (s.setPc v).cursor = s.cursor := rfl
@[simp] theorem State.setPc_read (s : State) (v : Addr) (q : Addr) : (s.setPc v).read q = s.read q := rfl

@[simp] theorem State.setIr_a (s : State) (v : Byte) : (s.setIr v).a = s.a := rfl
@[simp] theorem State.setIr_x (s : State) (v : Byte) : (s.setIr v).x = s.x := rfl
@[simp] theorem State.setIr_y (s : State) (v : Byte) : (s.setIr v).y = s.y := rfl
@[simp] theorem State.setIr_pc (s : State) (v : Byte) : (s.setIr v).pc = s.pc := rfl
@[simp] theorem State.setIr_ir (s : State) (v : Byte) : (s.setIr v).ir = v := rfl
@[simp] theorem State.setIr_flags (s : State) (v : Byte) : (s.setIr v).flags = s.flags := rfl
@[simp] theorem State.setIr_cyc (s : State) (v : Byte) : (s.setIr v).cyc = s.cyc := rfl
@[simp] theorem State.setIr_mem (s : State) (v : Byte) : (s.setIr v).mem = s.mem := rfl
@[simp] theorem State.setIr_cursor (s : State) (v : Byte) : (s.setIr v).cursor = s.cursor := rfl
@[simp] theorem State.setIr_read (s : State) (v : Byte) (q : Addr) : (s.setIr v).read q = s.read q := rfl

@[simp] theorem State.setFlags_a (s : State) (f : Flags) : (s.setFlags f).a = s.a := rfl
@[simp] theorem State.setFlags_x (s : State) (f : Flags) : (s.setFlags f).x = s.x := rfl
@[simp] theorem State.setFlags_y (s : State) (f : Flags) : (s.setFlags f).y = s.y := rfl
@[simp] theorem State.setFlags_pc (s : State) (f : Flags) : (s.setFlags f).pc = s.pc := rfl
@[simp] theorem State.setFlags_ir (s : State) (f : Flags) : (s.setFlags f).ir = s.ir := rfl
@[simp] theorem State.setFlags_flags (s : State) (f : Flags) : (s.setFlags f).flags = f := rfl
@[simp] theorem State.setFlags_cyc (s : State) (f : Flags) : (s.setFlags f).cyc = s.cyc := rfl
@[simp] theorem State.setFlags_mem (s : State) (f : Flags) : (s.setFlags f).mem = s.mem := rfl
@[simp] theorem State.setFlags_cursor (s : State) (f : Flags) : (s.setFlags f).cursor = s.cursor := rfl
@[simp] theorem State.setFlags_read (s : State) (f : Flags) (q : Addr) : (s.setFlags f).read q = s.read q := rfl

@[simp] theorem State.setCursor_a (s : State) (v : Addr) : (s.setCursor v).a = s.a := rfl
@[simp] theorem State.setCursor_x (s : State) (v : Addr) : (s.setCursor v).x = s.x := rfl
@[simp] theorem State.setCursor_y (s : State) (v : Addr) : (s.setCursor v).y = s.y := rfl
@[simp] theorem State.setCursor_pc (s : State) (v : Addr) : (s.setCursor v).pc = s.pc := rfl
@[simp] theorem State.setCursor_ir (s : State) (v : Addr) : (s.setCursor v).ir = s.ir := rfl
@[simp] theorem State.setCursor_flags (s : State) (v : Addr) : (s.setCursor v).flags = s.flags := rfl
@[simp] theorem State.setCursor_cyc (s : State) (v : Addr) : (s.setCursor v).cyc = s.cyc := rfl
@[simp] theorem State.setCursor_mem (s : State) (v : Addr) : (s.setCursor v).mem = s.mem := rfl
@[simp] theorem State.setCursor_cursor (s : State) (v : Addr) : (s.setCursor v).cursor = v := rfl
@[simp] theorem State.setCursor_read (s : State) (v : Addr) (q : Addr) : (s.setCursor v).read q = s.read q := rfl

@[simp] theorem State.advancePc_a (s : State) (n : Nat) : (s.advancePc n).a = s.a := rfl
@[simp] theorem State.advancePc_x (s : State) (n : Nat) : (s.advancePc n).x = s.x := rfl
@[simp] theorem State.advancePc_y (s : State) (n : Nat) : (s.advancePc n).y = s.y := rfl
@[simp] theorem State.advancePc_pc (s : State) (n : Nat) : (s.advancePc n).pc = s.pc + BitVec.ofNat 16 n := rfl
@[simp] theorem State.advancePc_ir (s : State) (n : Nat) : (s.advancePc n).ir = s.ir := rfl
@[simp] theorem State.advancePc_flags (s : State) (n : Nat) : (s.advancePc n).flags = s.flags := rfl
@[simp] theorem State.advancePc_cyc (s : State) (n : Nat) : (s.advancePc n).cyc = s.cyc := rfl
@[simp] theorem State.advancePc_mem (s : State) (n : Nat) : (s.advancePc n).mem = s.mem := rfl
@[simp] theorem State.advancePc_cursor (s : State) (n : Nat) : (s.advancePc n).cursor = s.cursor := rfl
@[simp] theorem State.advancePc_read (s : State) (n : Nat) (q : Addr) : (s.advancePc n).read q = s.read q := rfl

@[simp] theorem State.addCycles_a (s : State) (n : Nat) : (s.addCycles n).a = s.a := rfl
@[simp] theorem State.addCycles_x (s : State) (n : Nat) : (s.addCycles n).x = s.x := rfl
@[simp] theorem State.addCycles_y (s : State) (n : Nat) : (s.addCycles n).y = s.y := rfl
@[simp] theorem State.addCycles_pc (s : State) (n : Nat) : (s.addCycles n).pc = s.pc := rfl
@[simp] theorem State.addCycles_ir (s : State) (n : Nat) : (s.addCycles n).ir = s.ir := rfl
@[simp] theorem State.addCycles_flags (s : State) (n : Nat) : (s.addCycles n).flags = s.flags := rfl
@[simp] theorem State.addCycles_cyc (s : State) (n : Nat) : (s.addCycles n).cyc = s.cyc + BitVec.ofNat 64 n := rfl
@[simp] theorem State.addCycles_mem (s : State) (n : Nat) : (s.addCycles n).mem = s.mem := rfl
@[simp] theorem State.addCycles_cursor (s : State) (n : Nat) : (s.addCycles n).cursor = s.cursor := rfl
@[simp] theorem State.addCycles_read (s : State) (n : Nat) (q : Addr) : (s.addCycles n).read q = s.read q := rfl

@[simp] theorem State.write_a (s : State) (p : Addr) (v : Byte) : (s.write p v).a = s.a := rfl
@[simp] theorem State.write_x (s : State) (p : Addr) (v : Byte) : (s.write p v).x = s.x := rfl
@[simp] theorem State.write_y (s : State) (p : Addr) (v : Byte) : (s.write p v).y = s.y := rfl
@[simp] theorem State.write_pc (s : State) (p : Addr) (v : Byte) : (s.write p v).pc = s.pc := rfl
@[simp] theorem State.write_ir (s : State) (p : Addr) (v : Byte) : (s.write p v).ir = s.ir := rfl
@[simp] theorem State.write_flags (s : State) (p : Addr) (v : Byte) : (s.write p v).flags = s.flags := rfl
@[simp] theorem State.write_cyc (s : State) (p : Addr) (v : Byte) : (s.write p v).cyc = s.cyc := rfl
@[simp] theorem State.write_mem (s : State) (p : Addr) (v : Byte) : (s.write p v).mem = s.mem.write p.toNat v := rfl
@[simp] theorem State.write_cursor (s : State) (p : Addr) (v : Byte) : (s.write p v).cursor = s.cursor := rfl

/-! ### Fetching IR -/

@[simp] theorem State.fetchIr_a (s : State) : s.fetchIr.a = s.a := rfl
@[simp] theorem State.fetchIr_x (s : State) : s.fetchIr.x = s.x := rfl
@[simp] theorem State.fetchIr_y (s : State) : s.fetchIr.y = s.y := rfl
@[simp] theorem State.fetchIr_pc (s : State) : s.fetchIr.pc = s.pc := rfl
@[simp] theorem State.fetchIr_ir (s : State) : s.fetchIr.ir = s.operandByte 0 := rfl
@[simp] theorem State.fetchIr_flags (s : State) : s.fetchIr.flags = s.flags := rfl
@[simp] theorem State.fetchIr_cyc (s : State) : s.fetchIr.cyc = s.cyc := rfl
@[simp] theorem State.fetchIr_mem (s : State) : s.fetchIr.mem = s.mem := rfl
@[simp] theorem State.fetchIr_cursor (s : State) : s.fetchIr.cursor = s.cursor := rfl
@[simp] theorem State.fetchIr_read (s : State) (q : Addr) : s.fetchIr.read q = s.read q := rfl
@[simp] theorem State.fetchIr_operandByte (s : State) (k : Nat) : s.fetchIr.operandByte k = s.operandByte k := rfl
@[simp] theorem State.setIr_operandByte (s : State) (v : Byte) (k : Nat) : (s.setIr v).operandByte k = s.operandByte k := rfl
@[simp] theorem State.setIr_fetchDecode (s : State) (v : Byte) : (s.setIr v).fetchDecode = s.fetchDecode := rfl

/-! ### Reset -/

@[simp] theorem State.resetWith_a (s : State) (ia ix iy : Byte) : (s.resetWith ia ix iy).a = ia := rfl
@[simp] theorem State.resetWith_x (s : State) (ia ix iy : Byte) : (s.resetWith ia ix iy).x = ix := rfl
@[simp] theorem State.resetWith_y (s : State) (ia ix iy : Byte) : (s.resetWith ia ix iy).y = iy := rfl
@[simp] theorem State.resetWith_pc (s : State) (ia ix iy : Byte) : (s.resetWith ia ix iy).pc = Config.romBase := rfl
@[simp] theorem State.resetWith_ir (s : State) (ia ix iy : Byte) : (s.resetWith ia ix iy).ir = 0x00 := rfl
@[simp] theorem State.resetWith_flags (s : State) (ia ix iy : Byte) : (s.resetWith ia ix iy).flags = Flags.clear := rfl
@[simp] theorem State.resetWith_cyc (s : State) (ia ix iy : Byte) : (s.resetWith ia ix iy).cyc = 0 := rfl
@[simp] theorem State.resetWith_mem (s : State) (ia ix iy : Byte) : (s.resetWith ia ix iy).mem = s.mem := rfl
@[simp] theorem State.resetWith_cursor (s : State) (ia ix iy : Byte) : (s.resetWith ia ix iy).cursor = s.cursor := rfl

/-! ### Flags -/

@[simp] theorem Flags.adc_n (f : Flags) (a0 m : Byte) : (f.adc a0 m).n = isNegative (adcResult a0 m) := rfl
@[simp] theorem Flags.adc_v (f : Flags) (a0 m : Byte) : (f.adc a0 m).v = adcOverflow a0 m := rfl
@[simp] theorem Flags.adc_b (f : Flags) (a0 m : Byte) : (f.adc a0 m).b = f.b := rfl
@[simp] theorem Flags.adc_d (f : Flags) (a0 m : Byte) : (f.adc a0 m).d = f.d := rfl
@[simp] theorem Flags.adc_i (f : Flags) (a0 m : Byte) : (f.adc a0 m).i = f.i := rfl
@[simp] theorem Flags.adc_z (f : Flags) (a0 m : Byte) : (f.adc a0 m).z = isZero (adcResult a0 m) := rfl
@[simp] theorem Flags.adc_c (f : Flags) (a0 m : Byte) : (f.adc a0 m).c = adcCarry a0 m := rfl

@[simp] theorem Flags.logic_n (f : Flags) (r : Byte) : (f.logic r).n = isNegative r := rfl
@[simp] theorem Flags.logic_v (f : Flags) (r : Byte) : (f.logic r).v = f.v := rfl
@[simp] theorem Flags.logic_b (f : Flags) (r : Byte) : (f.logic r).b = f.b := rfl
@[simp] theorem Flags.logic_d (f : Flags) (r : Byte) : (f.logic r).d = f.d := rfl
@[simp] theorem Flags.logic_i (f : Flags) (r : Byte) : (f.logic r).i = f.i := rfl
@[simp] theorem Flags.logic_z (f : Flags) (r : Byte) : (f.logic r).z = isZero r := rfl
@[simp] theorem Flags.logic_c (f : Flags) (r : Byte) : (f.logic r).c = f.c := rfl

@[simp] theorem Flags.bitTest_n (f : Flags) (a0 m : Byte) : (f.bitTest a0 m).n = m.getLsbD 7 := rfl
@[simp] theorem Flags.bitTest_v (f : Flags) (a0 m : Byte) : (f.bitTest a0 m).v = m.getLsbD 6 := rfl
@[simp] theorem Flags.bitTest_b (f : Flags) (a0 m : Byte) : (f.bitTest a0 m).b = f.b := rfl
@[simp] theorem Flags.bitTest_d (f : Flags) (a0 m : Byte) : (f.bitTest a0 m).d = f.d := rfl
@[simp] theorem Flags.bitTest_i (f : Flags) (a0 m : Byte) : (f.bitTest a0 m).i = f.i := rfl
@[simp] theorem Flags.bitTest_z (f : Flags) (a0 m : Byte) : (f.bitTest a0 m).z = isZero (a0 &&& m) := rfl
@[simp] theorem Flags.bitTest_c (f : Flags) (a0 m : Byte) : (f.bitTest a0 m).c = f.c := rfl

@[simp] theorem Flags.asl_n (f : Flags) (w : Byte) : (f.asl w).n = isNegative (aslResult w) := rfl
@[simp] theorem Flags.asl_v (f : Flags) (w : Byte) : (f.asl w).v = f.v := rfl
@[simp] theorem Flags.asl_b (f : Flags) (w : Byte) : (f.asl w).b = f.b := rfl
@[simp] theorem Flags.asl_d (f : Flags) (w : Byte) : (f.asl w).d = f.d := rfl
@[simp] theorem Flags.asl_i (f : Flags) (w : Byte) : (f.asl w).i = f.i := rfl
@[simp] theorem Flags.asl_z (f : Flags) (w : Byte) : (f.asl w).z = isZero (aslResult w) := rfl
@[simp] theorem Flags.asl_c (f : Flags) (w : Byte) : (f.asl w).c = w.getLsbD 7 := rfl

@[simp] theorem Flags.compare_n (f : Flags) (r m : Byte) : (f.compare r m).n = isNegative (r - m) := rfl
@[simp] theorem Flags.compare_v (f : Flags) (r m : Byte) : (f.compare r m).v = f.v := rfl
@[simp] theorem Flags.compare_b (f : Flags) (r m : Byte) : (f.compare r m).b = f.b := rfl
@[simp] theorem Flags.compare_d (f : Flags) (r m : Byte) : (f.compare r m).d = f.d := rfl
@[simp] theorem Flags.compare_i (f : Flags) (r m : Byte) : (f.compare r m).i = f.i := rfl
@[simp] theorem Flags.compare_z (f : Flags) (r m : Byte) : (f.compare r m).z = (r == m) := rfl
@[simp] theorem Flags.compare_c (f : Flags) (r m : Byte) : (f.compare r m).c = decide (m.toNat ≤ r.toNat) := rfl

end Sys2Proof.Machine
end

