-- ==== Sys2Proof/Laws/Memory.lean ====
section
/-! SUPPORT. Storage: what reading after writing gives (20_memory.md rule R51), and that every memory operation keeps the
canonical form. -/

namespace Sys2Proof.Machine

/-! ### Read after write, on any memory -/

theorem Memory.read_erase_same (m : Memory) (a : Nat) : (m.erase a).read a = Config.unlistedByte := by
  induction m with
  | nil => rfl
  | cons c rest ih =>
    obtain ⟨k, v⟩ := c
    by_cases h : k = a <;> simp [Memory.erase, Memory.read, h, ih]

theorem Memory.read_erase_ne (m : Memory) {a b : Nat} (hab : a ≠ b) : (m.erase a).read b = m.read b := by
  induction m with
  | nil => rfl
  | cons c rest ih =>
    obtain ⟨k, v⟩ := c
    by_cases h : k = a
    · subst h; simp [Memory.erase, Memory.read, hab, ih]
    · simp [Memory.erase, Memory.read, h, ih]

/-- No entry for `a` is left. -/
theorem Memory.erase_no_entry (m : Memory) (a : Nat) : ∀ c ∈ m.erase a, c.1 ≠ a := by
  induction m with
  | nil => simp [Memory.erase]
  | cons c rest ih =>
    obtain ⟨k, v⟩ := c
    by_cases h : k = a
    · simpa [Memory.erase, h] using ih
    · simpa [Memory.erase, h] using ih

theorem Memory.read_insert_same (m : Memory) (a : Nat) (v : Byte) (h : ∀ c ∈ m, c.1 ≠ a) :
    (m.insert a v).read a = v := by
  induction m with
  | nil => simp [Memory.insert, Memory.read]
  | cons c rest ih =>
    obtain ⟨k, w⟩ := c
    have hk : k ≠ a := h (k, w) (by simp)
    have hr := ih fun c hc => h c (by simp [hc])
    by_cases hlt : a < k <;> simp [Memory.insert, Memory.read, hlt, hk, hr]

theorem Memory.read_insert_ne (m : Memory) {a b : Nat} (v : Byte) (hab : a ≠ b) :
    (m.insert a v).read b = m.read b := by
  induction m with
  | nil => simp [Memory.insert, Memory.read, hab]
  | cons c rest ih =>
    obtain ⟨k, w⟩ := c
    by_cases hlt : a < k <;> simp [Memory.insert, Memory.read, hlt, hab, ih]

@[simp] theorem Memory.read_write_same (m : Memory) (a : Nat) (v : Byte) : (m.write a v).read a = v := by
  unfold Memory.write
  split
  · next h => rw [h]; exact Memory.read_erase_same m a
  · exact Memory.read_insert_same _ a v (Memory.erase_no_entry m a)

theorem Memory.read_write_ne (m : Memory) {a b : Nat} (v : Byte) (hab : a ≠ b) :
    (m.write a v).read b = m.read b := by
  unfold Memory.write
  split
  · exact Memory.read_erase_ne m hab
  · rw [Memory.read_insert_ne _ v hab, Memory.read_erase_ne m hab]

@[simp] theorem State.read_write_same (s : State) (a : Addr) (v : Byte) : (s.write a v).read a = v :=
  Memory.read_write_same s.mem a.toNat v

theorem State.read_write_ne (s : State) {a b : Addr} (v : Byte) (hab : b ≠ a) : (s.write a v).read b = s.read b :=
  Memory.read_write_ne s.mem v fun h => hab (BitVec.eq_of_toNat_eq h).symm

/-! ### The canonical form is kept -/

theorem Memory.wfFrom_mono {lo lo' : Nat} (h : lo' ≤ lo) {m : Memory} (hm : Memory.wfFrom lo m = true) :
    Memory.wfFrom lo' m = true := by
  cases m with
  | nil => rfl
  | cons c rest =>
    obtain ⟨k, v⟩ := c
    simp only [Memory.wfFrom, Bool.and_eq_true, decide_eq_true_eq] at hm ⊢
    exact ⟨⟨⟨h.trans hm.1.1.1, hm.1.1.2⟩, hm.1.2⟩, hm.2⟩

theorem Memory.erase_wfFrom (m : Memory) (a : Nat) : ∀ lo, Memory.wfFrom lo m = true →
    Memory.wfFrom lo (m.erase a) = true := by
  induction m with
  | nil => intro lo _; rfl
  | cons c rest ih =>
    obtain ⟨k, v⟩ := c
    intro lo hm
    simp only [Memory.wfFrom, Bool.and_eq_true, decide_eq_true_eq] at hm
    by_cases h : k = a
    · simp only [Memory.erase, h, if_true]
      exact Memory.wfFrom_mono (by omega) (ih _ hm.2)
    · simp only [Memory.erase, h, if_false, Memory.wfFrom, Bool.and_eq_true, decide_eq_true_eq]
      exact ⟨hm.1, ih _ hm.2⟩

theorem Memory.insert_wfFrom (m : Memory) (a : Nat) (v : Byte) (ha : a < Config.memSize)
    (hv : v ≠ Config.unlistedByte) : ∀ lo, lo ≤ a → (∀ c ∈ m, c.1 ≠ a) → Memory.wfFrom lo m = true →
    Memory.wfFrom lo (m.insert a v) = true := by
  induction m with
  | nil =>
    intro lo hlo _ _
    simp [Memory.insert, Memory.wfFrom, hlo, ha, hv]
  | cons c rest ih =>
    obtain ⟨k, w⟩ := c
    intro lo hlo hne hm
    simp only [Memory.wfFrom, Bool.and_eq_true, decide_eq_true_eq] at hm
    have hk : k ≠ a := hne (k, w) (by simp)
    by_cases hlt : a < k
    · simp only [Memory.insert, hlt, if_true, Memory.wfFrom, Bool.and_eq_true, decide_eq_true_eq, bne_iff_ne, ne_eq]
      exact ⟨⟨⟨hlo, ha⟩, hv⟩, ⟨⟨hlt, hm.1.1.2⟩, by simpa using hm.1.2⟩, hm.2⟩
    · simp only [Memory.insert, hlt, if_false, Memory.wfFrom, Bool.and_eq_true, decide_eq_true_eq]
      exact ⟨hm.1, ih (k + 1) (by omega) (fun c hc => hne c (by simp [hc])) hm.2⟩

theorem Memory.write_wf (m : Memory) (a : Nat) (v : Byte) (ha : a < Config.memSize) (hm : m.wf = true) :
    (m.write a v).wf = true := by
  unfold Memory.write
  split
  · exact Memory.erase_wfFrom m a 0 hm
  · next hv =>
    exact Memory.insert_wfFrom _ a v ha hv 0 (Nat.zero_le a) (Memory.erase_no_entry m a) (Memory.erase_wfFrom m a 0 hm)

theorem State.write_wf (s : State) (a : Addr) (v : Byte) (hm : s.mem.wf = true) : (s.write a v).mem.wf = true :=
  Memory.write_wf s.mem a.toNat v (by simpa [Config.memSize] using a.isLt) hm

theorem Memory.ofFnFrom_wfFrom (f : Addr → Byte) (n : Nat) : ∀ lo, lo + n ≤ Config.memSize →
    Memory.wfFrom lo (Memory.ofFnFrom f lo n) = true := by
  induction n with
  | zero => intro lo _; rfl
  | succ n ih =>
    intro lo hlo
    have hr := ih (lo + 1) (by omega)
    unfold Memory.ofFnFrom
    split
    · exact Memory.wfFrom_mono (by omega) hr
    · next hv =>
      simp only [Memory.wfFrom, Bool.and_eq_true, decide_eq_true_eq, bne_iff_ne, ne_eq]
      exact ⟨⟨⟨le_refl lo, by omega⟩, hv⟩, hr⟩

theorem Memory.ofFn_wf (f : Addr → Byte) : (Memory.ofFn f).wf = true :=
  Memory.ofFnFrom_wfFrom f Config.memSize 0 (by simp)

theorem State.writeBytes_wf (bytes : List Byte) : ∀ (s : State) (a : Addr), s.mem.wf = true →
    (s.writeBytes a bytes).mem.wf = true := by
  induction bytes with
  | nil => intro s a h; exact h
  | cons v rest ih => intro s a h; exact ih _ _ (State.write_wf s a v h)

theorem State.withFetchWord_wf (s : State) (nbits w : Nat) (h : s.mem.wf = true) :
    (s.withFetchWord nbits w).mem.wf = true :=
  State.write_wf _ _ _ (State.write_wf _ _ _ (State.write_wf _ _ _ h))

theorem State.reset_wf : State.reset.mem.wf = true := rfl

/-! ### Two canonical memories that read the same are equal -/

theorem Memory.read_below {lo : Nat} {m : Memory} (hm : Memory.wfFrom lo m = true) {a : Nat} (ha : a < lo) :
    m.read a = Config.unlistedByte := by
  induction m generalizing lo with
  | nil => rfl
  | cons c rest ih =>
    obtain ⟨k, v⟩ := c
    simp only [Memory.wfFrom, Bool.and_eq_true, decide_eq_true_eq] at hm
    have hk : k ≠ a := by omega
    simp only [Memory.read, hk, if_false]
    exact ih hm.2 (by omega)

theorem Memory.ext_of_read : ∀ {m m' : Memory} {lo lo' : Nat}, Memory.wfFrom lo m = true → Memory.wfFrom lo' m' = true →
    (∀ a, m.read a = m'.read a) → m = m' := by
  intro m
  induction m with
  | nil =>
    intro m' lo lo' _ hm' h
    cases m' with
    | nil => rfl
    | cons c rest =>
      obtain ⟨k, v⟩ := c
      simp only [Memory.wfFrom, Bool.and_eq_true, bne_iff_ne, ne_eq] at hm'
      have := h k
      simp [Memory.read] at this
      exact absurd this.symm hm'.1.2
  | cons c rest ih =>
    intro m' lo lo' hm hm' h
    obtain ⟨k, v⟩ := c
    have hmc := hm
    simp only [Memory.wfFrom, Bool.and_eq_true, decide_eq_true_eq, bne_iff_ne, ne_eq] at hm
    cases m' with
    | nil =>
      have := h k
      simp [Memory.read] at this
      exact absurd this hm.1.2
    | cons c' rest' =>
      obtain ⟨k', v'⟩ := c'
      have hmc' := hm'
      simp only [Memory.wfFrom, Bool.and_eq_true, decide_eq_true_eq, bne_iff_ne, ne_eq] at hm'
      have hkk : k = k' := by
        rcases Nat.lt_trichotomy k k' with hlt | heq | hgt
        · have h1 := h k
          have hne : k' ≠ k := by omega
          have hb : Memory.read rest' k = Config.unlistedByte := Memory.read_below hm'.2 (by omega)
          simp [Memory.read, hne, hb] at h1
          exact absurd h1 hm.1.2
        · exact heq
        · have h1 := h k'
          have hne : k ≠ k' := by omega
          have hb : Memory.read rest k' = Config.unlistedByte := Memory.read_below hm.2 (by omega)
          simp [Memory.read, hne, hb] at h1
          exact absurd h1.symm hm'.1.2
      subst hkk
      have hv : v = v' := by simpa [Memory.read] using h k
      subst hv
      have hrest : rest = rest' := by
        apply ih hm.2 hm'.2
        intro a
        by_cases ha : k = a
        · subst ha
          rw [Memory.read_below hm.2 (by omega), Memory.read_below hm'.2 (by omega)]
        · simpa [Memory.read, ha] using h a
      rw [hrest]

/-- Equal canonical memories are equal data. -/
theorem Memory.eq_of_read {m m' : Memory} (hm : m.wf = true) (hm' : m'.wf = true) (h : ∀ a, m.read a = m'.read a) : m = m' :=
  Memory.ext_of_read hm hm' h

end Sys2Proof.Machine
end

