-- ==== Sys2Proof/Laws/PerInstr.lean ====
section
/-! SUPPORT. Statements about every instruction as syntax, one lemma per constructor of `Instr`: what the opcode table says of its
row (30_encoding.md rules R82 to R88). -/

namespace Sys2Proof.Laws.Shape

/-- An instruction is well-formed; its encoding is its opcode byte and its operand bytes, and has the descriptor's length; its
opcode byte decodes to its own descriptor; and length and base cycles lie in the bounds of the table. -/
def Statement (i : Instr) : Prop :=
  i.wellFormed = true ∧ (encode i).length = i.length ∧ decodeByte i.opcode = some i.descriptor ∧
    (1 ≤ i.length ∧ i.length ≤ 3) ∧ 2 ≤ i.cycles ∧ i.cycles ≤ 7

/-- The two bounds are facts about closed numbers; the operand fields play no part. -/
theorem intro {i : Instr} (hw : i.wellFormed = true) (hl : (encode i).length = i.length)
    (hd : decodeByte i.opcode = some i.descriptor) (hb : (decide (1 ≤ i.length ∧ i.length ≤ 3)) = true)
    (hc : (decide (2 ≤ i.cycles ∧ i.cycles ≤ 7)) = true) : Statement i :=
  ⟨hw, hl, hd, of_decide_eq_true hb, of_decide_eq_true hc⟩

theorem ldaImm (imm8 : Byte) : Statement (.ldaImm imm8) := intro rfl rfl rfl rfl rfl
theorem ldaZp (zp8 : Byte) : Statement (.ldaZp zp8) := intro rfl rfl rfl rfl rfl
theorem ldaZpx (zp8 : Byte) : Statement (.ldaZpx zp8) := intro rfl rfl rfl rfl rfl
theorem ldaAbs (addr16 : Addr) : Statement (.ldaAbs addr16) := intro rfl rfl rfl rfl rfl
theorem ldaAbx (addr16 : Addr) : Statement (.ldaAbx addr16) := intro rfl rfl rfl rfl rfl
theorem ldaAby (addr16 : Addr) : Statement (.ldaAby addr16) := intro rfl rfl rfl rfl rfl
theorem ldaIzx (zp8 : Byte) : Statement (.ldaIzx zp8) := intro rfl rfl rfl rfl rfl
theorem ldaIzy (zp8 : Byte) : Statement (.ldaIzy zp8) := intro rfl rfl rfl rfl rfl
theorem ldxImm (imm8 : Byte) : Statement (.ldxImm imm8) := intro rfl rfl rfl rfl rfl
theorem ldxZp (zp8 : Byte) : Statement (.ldxZp zp8) := intro rfl rfl rfl rfl rfl
theorem ldxZpy (zp8 : Byte) : Statement (.ldxZpy zp8) := intro rfl rfl rfl rfl rfl
theorem ldxAbs (addr16 : Addr) : Statement (.ldxAbs addr16) := intro rfl rfl rfl rfl rfl
theorem ldxAby (addr16 : Addr) : Statement (.ldxAby addr16) := intro rfl rfl rfl rfl rfl
theorem ldyImm (imm8 : Byte) : Statement (.ldyImm imm8) := intro rfl rfl rfl rfl rfl
theorem ldyZp (zp8 : Byte) : Statement (.ldyZp zp8) := intro rfl rfl rfl rfl rfl
theorem ldyZpx (zp8 : Byte) : Statement (.ldyZpx zp8) := intro rfl rfl rfl rfl rfl
theorem ldyAbs (addr16 : Addr) : Statement (.ldyAbs addr16) := intro rfl rfl rfl rfl rfl
theorem ldyAbx (addr16 : Addr) : Statement (.ldyAbx addr16) := intro rfl rfl rfl rfl rfl
theorem staZp (zp8 : Byte) : Statement (.staZp zp8) := intro rfl rfl rfl rfl rfl
theorem staZpx (zp8 : Byte) : Statement (.staZpx zp8) := intro rfl rfl rfl rfl rfl
theorem staAbs (addr16 : Addr) : Statement (.staAbs addr16) := intro rfl rfl rfl rfl rfl
theorem staAbx (addr16 : Addr) : Statement (.staAbx addr16) := intro rfl rfl rfl rfl rfl
theorem staAby (addr16 : Addr) : Statement (.staAby addr16) := intro rfl rfl rfl rfl rfl
theorem staIzx (zp8 : Byte) : Statement (.staIzx zp8) := intro rfl rfl rfl rfl rfl
theorem staIzy (zp8 : Byte) : Statement (.staIzy zp8) := intro rfl rfl rfl rfl rfl
theorem stxZp (zp8 : Byte) : Statement (.stxZp zp8) := intro rfl rfl rfl rfl rfl
theorem stxZpy (zp8 : Byte) : Statement (.stxZpy zp8) := intro rfl rfl rfl rfl rfl
theorem stxAbs (addr16 : Addr) : Statement (.stxAbs addr16) := intro rfl rfl rfl rfl rfl
theorem styZp (zp8 : Byte) : Statement (.styZp zp8) := intro rfl rfl rfl rfl rfl
theorem styZpx (zp8 : Byte) : Statement (.styZpx zp8) := intro rfl rfl rfl rfl rfl
theorem styAbs (addr16 : Addr) : Statement (.styAbs addr16) := intro rfl rfl rfl rfl rfl
theorem adcImm (imm8 : Byte) : Statement (.adcImm imm8) := intro rfl rfl rfl rfl rfl
theorem adcZp (zp8 : Byte) : Statement (.adcZp zp8) := intro rfl rfl rfl rfl rfl
theorem adcZpx (zp8 : Byte) : Statement (.adcZpx zp8) := intro rfl rfl rfl rfl rfl
theorem adcAbs (addr16 : Addr) : Statement (.adcAbs addr16) := intro rfl rfl rfl rfl rfl
theorem adcAbx (addr16 : Addr) : Statement (.adcAbx addr16) := intro rfl rfl rfl rfl rfl
theorem adcAby (addr16 : Addr) : Statement (.adcAby addr16) := intro rfl rfl rfl rfl rfl
theorem adcIzx (zp8 : Byte) : Statement (.adcIzx zp8) := intro rfl rfl rfl rfl rfl
theorem adcIzy (zp8 : Byte) : Statement (.adcIzy zp8) := intro rfl rfl rfl rfl rfl
theorem andImm (imm8 : Byte) : Statement (.andImm imm8) := intro rfl rfl rfl rfl rfl
theorem andZp (zp8 : Byte) : Statement (.andZp zp8) := intro rfl rfl rfl rfl rfl
theorem andZpx (zp8 : Byte) : Statement (.andZpx zp8) := intro rfl rfl rfl rfl rfl
theorem andAbs (addr16 : Addr) : Statement (.andAbs addr16) := intro rfl rfl rfl rfl rfl
theorem andAbx (addr16 : Addr) : Statement (.andAbx addr16) := intro rfl rfl rfl rfl rfl
theorem andAby (addr16 : Addr) : Statement (.andAby addr16) := intro rfl rfl rfl rfl rfl
theorem andIzx (zp8 : Byte) : Statement (.andIzx zp8) := intro rfl rfl rfl rfl rfl
theorem andIzy (zp8 : Byte) : Statement (.andIzy zp8) := intro rfl rfl rfl rfl rfl
theorem bitZp (zp8 : Byte) : Statement (.bitZp zp8) := intro rfl rfl rfl rfl rfl
theorem bitAbs (addr16 : Addr) : Statement (.bitAbs addr16) := intro rfl rfl rfl rfl rfl
theorem aslAcc : Statement .aslAcc := intro rfl rfl rfl rfl rfl
theorem aslZp (zp8 : Byte) : Statement (.aslZp zp8) := intro rfl rfl rfl rfl rfl
theorem aslZpx (zp8 : Byte) : Statement (.aslZpx zp8) := intro rfl rfl rfl rfl rfl
theorem aslAbs (addr16 : Addr) : Statement (.aslAbs addr16) := intro rfl rfl rfl rfl rfl
theorem aslAbx (addr16 : Addr) : Statement (.aslAbx addr16) := intro rfl rfl rfl rfl rfl
theorem incZp (zp8 : Byte) : Statement (.incZp zp8) := intro rfl rfl rfl rfl rfl
theorem incZpx (zp8 : Byte) : Statement (.incZpx zp8) := intro rfl rfl rfl rfl rfl
theorem incAbs (addr16 : Addr) : Statement (.incAbs addr16) := intro rfl rfl rfl rfl rfl
theorem incAbx (addr16 : Addr) : Statement (.incAbx addr16) := intro rfl rfl rfl rfl rfl
theorem decZp (zp8 : Byte) : Statement (.decZp zp8) := intro rfl rfl rfl rfl rfl
theorem decZpx (zp8 : Byte) : Statement (.decZpx zp8) := intro rfl rfl rfl rfl rfl
theorem decAbs (addr16 : Addr) : Statement (.decAbs addr16) := intro rfl rfl rfl rfl rfl
theorem decAbx (addr16 : Addr) : Statement (.decAbx addr16) := intro rfl rfl rfl rfl rfl
theorem inx : Statement .inx := intro rfl rfl rfl rfl rfl
theorem iny : Statement .iny := intro rfl rfl rfl rfl rfl
theorem dex : Statement .dex := intro rfl rfl rfl rfl rfl
theorem dey : Statement .dey := intro rfl rfl rfl rfl rfl
theorem cmpImm (imm8 : Byte) : Statement (.cmpImm imm8) := intro rfl rfl rfl rfl rfl
theorem cmpZp (zp8 : Byte) : Statement (.cmpZp zp8) := intro rfl rfl rfl rfl rfl
theorem cmpZpx (zp8 : Byte) : Statement (.cmpZpx zp8) := intro rfl rfl rfl rfl rfl
theorem cmpAbs (addr16 : Addr) : Statement (.cmpAbs addr16) := intro rfl rfl rfl rfl rfl
theorem cmpAbx (addr16 : Addr) : Statement (.cmpAbx addr16) := intro rfl rfl rfl rfl rfl
theorem cmpAby (addr16 : Addr) : Statement (.cmpAby addr16) := intro rfl rfl rfl rfl rfl
theorem cmpIzx (zp8 : Byte) : Statement (.cmpIzx zp8) := intro rfl rfl rfl rfl rfl
theorem cmpIzy (zp8 : Byte) : Statement (.cmpIzy zp8) := intro rfl rfl rfl rfl rfl
theorem cpxImm (imm8 : Byte) : Statement (.cpxImm imm8) := intro rfl rfl rfl rfl rfl
theorem cpxZp (zp8 : Byte) : Statement (.cpxZp zp8) := intro rfl rfl rfl rfl rfl
theorem cpxAbs (addr16 : Addr) : Statement (.cpxAbs addr16) := intro rfl rfl rfl rfl rfl
theorem cpyImm (imm8 : Byte) : Statement (.cpyImm imm8) := intro rfl rfl rfl rfl rfl
theorem cpyZp (zp8 : Byte) : Statement (.cpyZp zp8) := intro rfl rfl rfl rfl rfl
theorem cpyAbs (addr16 : Addr) : Statement (.cpyAbs addr16) := intro rfl rfl rfl rfl rfl
theorem bpl (rel8 : Byte) : Statement (.bpl rel8) := intro rfl rfl rfl rfl rfl
theorem bmi (rel8 : Byte) : Statement (.bmi rel8) := intro rfl rfl rfl rfl rfl
theorem bvc (rel8 : Byte) : Statement (.bvc rel8) := intro rfl rfl rfl rfl rfl
theorem bvs (rel8 : Byte) : Statement (.bvs rel8) := intro rfl rfl rfl rfl rfl
theorem bcc (rel8 : Byte) : Statement (.bcc rel8) := intro rfl rfl rfl rfl rfl
theorem bcs (rel8 : Byte) : Statement (.bcs rel8) := intro rfl rfl rfl rfl rfl
theorem bne (rel8 : Byte) : Statement (.bne rel8) := intro rfl rfl rfl rfl rfl
theorem beq (rel8 : Byte) : Statement (.beq rel8) := intro rfl rfl rfl rfl rfl
theorem jmpAbs (addr16 : Addr) : Statement (.jmpAbs addr16) := intro rfl rfl rfl rfl rfl
theorem jmpInd (addr16 : Addr) : Statement (.jmpInd addr16) := intro rfl rfl rfl rfl rfl
theorem oraImm (imm8 : Byte) : Statement (.oraImm imm8) := intro rfl rfl rfl rfl rfl
theorem oraZp (zp8 : Byte) : Statement (.oraZp zp8) := intro rfl rfl rfl rfl rfl
theorem oraZpx (zp8 : Byte) : Statement (.oraZpx zp8) := intro rfl rfl rfl rfl rfl
theorem oraAbs (addr16 : Addr) : Statement (.oraAbs addr16) := intro rfl rfl rfl rfl rfl
theorem oraAbx (addr16 : Addr) : Statement (.oraAbx addr16) := intro rfl rfl rfl rfl rfl
theorem oraAby (addr16 : Addr) : Statement (.oraAby addr16) := intro rfl rfl rfl rfl rfl
theorem oraIzx (zp8 : Byte) : Statement (.oraIzx zp8) := intro rfl rfl rfl rfl rfl
theorem oraIzy (zp8 : Byte) : Statement (.oraIzy zp8) := intro rfl rfl rfl rfl rfl
theorem eorImm (imm8 : Byte) : Statement (.eorImm imm8) := intro rfl rfl rfl rfl rfl
theorem eorZp (zp8 : Byte) : Statement (.eorZp zp8) := intro rfl rfl rfl rfl rfl
theorem eorZpx (zp8 : Byte) : Statement (.eorZpx zp8) := intro rfl rfl rfl rfl rfl
theorem eorAbs (addr16 : Addr) : Statement (.eorAbs addr16) := intro rfl rfl rfl rfl rfl
theorem eorAbx (addr16 : Addr) : Statement (.eorAbx addr16) := intro rfl rfl rfl rfl rfl
theorem eorAby (addr16 : Addr) : Statement (.eorAby addr16) := intro rfl rfl rfl rfl rfl
theorem eorIzx (zp8 : Byte) : Statement (.eorIzx zp8) := intro rfl rfl rfl rfl rfl
theorem eorIzy (zp8 : Byte) : Statement (.eorIzy zp8) := intro rfl rfl rfl rfl rfl
theorem sbcImm (imm8 : Byte) : Statement (.sbcImm imm8) := intro rfl rfl rfl rfl rfl
theorem sbcZp (zp8 : Byte) : Statement (.sbcZp zp8) := intro rfl rfl rfl rfl rfl
theorem sbcZpx (zp8 : Byte) : Statement (.sbcZpx zp8) := intro rfl rfl rfl rfl rfl
theorem sbcAbs (addr16 : Addr) : Statement (.sbcAbs addr16) := intro rfl rfl rfl rfl rfl
theorem sbcAbx (addr16 : Addr) : Statement (.sbcAbx addr16) := intro rfl rfl rfl rfl rfl
theorem sbcAby (addr16 : Addr) : Statement (.sbcAby addr16) := intro rfl rfl rfl rfl rfl
theorem sbcIzx (zp8 : Byte) : Statement (.sbcIzx zp8) := intro rfl rfl rfl rfl rfl
theorem sbcIzy (zp8 : Byte) : Statement (.sbcIzy zp8) := intro rfl rfl rfl rfl rfl
theorem lsrAcc : Statement .lsrAcc := intro rfl rfl rfl rfl rfl
theorem lsrZp (zp8 : Byte) : Statement (.lsrZp zp8) := intro rfl rfl rfl rfl rfl
theorem lsrZpx (zp8 : Byte) : Statement (.lsrZpx zp8) := intro rfl rfl rfl rfl rfl
theorem lsrAbs (addr16 : Addr) : Statement (.lsrAbs addr16) := intro rfl rfl rfl rfl rfl
theorem lsrAbx (addr16 : Addr) : Statement (.lsrAbx addr16) := intro rfl rfl rfl rfl rfl
theorem rolAcc : Statement .rolAcc := intro rfl rfl rfl rfl rfl
theorem rolZp (zp8 : Byte) : Statement (.rolZp zp8) := intro rfl rfl rfl rfl rfl
theorem rolZpx (zp8 : Byte) : Statement (.rolZpx zp8) := intro rfl rfl rfl rfl rfl
theorem rolAbs (addr16 : Addr) : Statement (.rolAbs addr16) := intro rfl rfl rfl rfl rfl
theorem rolAbx (addr16 : Addr) : Statement (.rolAbx addr16) := intro rfl rfl rfl rfl rfl
theorem rorAcc : Statement .rorAcc := intro rfl rfl rfl rfl rfl
theorem rorZp (zp8 : Byte) : Statement (.rorZp zp8) := intro rfl rfl rfl rfl rfl
theorem rorZpx (zp8 : Byte) : Statement (.rorZpx zp8) := intro rfl rfl rfl rfl rfl
theorem rorAbs (addr16 : Addr) : Statement (.rorAbs addr16) := intro rfl rfl rfl rfl rfl
theorem rorAbx (addr16 : Addr) : Statement (.rorAbx addr16) := intro rfl rfl rfl rfl rfl
theorem tax : Statement .tax := intro rfl rfl rfl rfl rfl
theorem tay : Statement .tay := intro rfl rfl rfl rfl rfl
theorem txa : Statement .txa := intro rfl rfl rfl rfl rfl
theorem tya : Statement .tya := intro rfl rfl rfl rfl rfl
theorem tsx : Statement .tsx := intro rfl rfl rfl rfl rfl
theorem txs : Statement .txs := intro rfl rfl rfl rfl rfl
theorem pha : Statement .pha := intro rfl rfl rfl rfl rfl
theorem pla : Statement .pla := intro rfl rfl rfl rfl rfl
theorem php : Statement .php := intro rfl rfl rfl rfl rfl
theorem plp : Statement .plp := intro rfl rfl rfl rfl rfl
theorem jsr (addr16 : Addr) : Statement (.jsr addr16) := intro rfl rfl rfl rfl rfl
theorem rts : Statement .rts := intro rfl rfl rfl rfl rfl
theorem rti : Statement .rti := intro rfl rfl rfl rfl rfl
theorem brk : Statement .brk := intro rfl rfl rfl rfl rfl
theorem nop : Statement .nop := intro rfl rfl rfl rfl rfl
theorem clc : Statement .clc := intro rfl rfl rfl rfl rfl
theorem sec : Statement .sec := intro rfl rfl rfl rfl rfl
theorem cli : Statement .cli := intro rfl rfl rfl rfl rfl
theorem sei : Statement .sei := intro rfl rfl rfl rfl rfl
theorem clv : Statement .clv := intro rfl rfl rfl rfl rfl
theorem cld : Statement .cld := intro rfl rfl rfl rfl rfl
theorem sed : Statement .sed := intro rfl rfl rfl rfl rfl

end Sys2Proof.Laws.Shape
end

