-- ==== Sys2Proof/Laws/Step.lean ====
section
/-! SUPPORT. What the shared operations can do, said once: completing an instruction, ending in a fault, everything a meaning can
change in the state, and the shape of a step. Later proofs cite these instead of unfolding the meanings. -/

namespace Sys2Proof.Machine

/-! ### Completing and faulting -/

/-- The state `complete` leaves: the one of the sequencer's lines 9 and 10. -/
theorem complete_eq (i : Instr) (s : State) : complete i s = .next (afterExecute i.descriptor s) := rfl

/-- An instruction other than JMP advances PC. -/
theorem complete_of_not_jmp {i : Instr} (h : i.entry.op ≠ .jmp) (s : State) :
    complete i s = .next ((s.advancePc i.length).addCycles i.cycles) := by
  simp [complete, h]

/-- JMP keeps the PC its meaning set. -/
theorem complete_of_jmp {i : Instr} (h : i.entry.op = .jmp) (s : State) : complete i s = .next (s.addCycles i.cycles) := by
  simp [complete, h]

theorem unimplemented_eq (i : Instr) (s : State) :
    unimplemented i s = .fault (.unimplementedOperation i.entry.op i.entry.mode s.pc) := rfl

theorem fault_ne_next {f : Fault} {t : State} (h : (Host.Outcome.fault f : Result) = .next t) : False := by cases h

theorem next_ne_fault {f : Fault} {t : State} (h : (Host.Outcome.next t : Result) = .fault f) : False := by cases h

theorem refused_ne_next {r : Refusal} {t : State} (h : (Host.Outcome.refused r : Result) = .next t) : False := by cases h

theorem refused_ne_fault {r : Refusal} {f : Fault} (h : (Host.Outcome.refused r : Result) = .fault f) : False := by cases h

section
variable (d : Descriptor) (s : State)

@[simp] theorem afterExecute_a : (afterExecute d s).a = s.a := by unfold afterExecute; split <;> rfl
@[simp] theorem afterExecute_x : (afterExecute d s).x = s.x := by unfold afterExecute; split <;> rfl
@[simp] theorem afterExecute_y : (afterExecute d s).y = s.y := by unfold afterExecute; split <;> rfl
@[simp] theorem afterExecute_ir : (afterExecute d s).ir = s.ir := by unfold afterExecute; split <;> rfl
@[simp] theorem afterExecute_flags : (afterExecute d s).flags = s.flags := by unfold afterExecute; split <;> rfl
@[simp] theorem afterExecute_mem : (afterExecute d s).mem = s.mem := by unfold afterExecute; split <;> rfl
@[simp] theorem afterExecute_cursor : (afterExecute d s).cursor = s.cursor := by unfold afterExecute; split <;> rfl
@[simp] theorem afterExecute_cyc : (afterExecute d s).cyc = s.cyc + BitVec.ofNat 64 d.cycles := by
  unfold afterExecute; split <;> rfl
@[simp] theorem afterExecute_pc : (afterExecute d s).pc = if d.op = .jmp then s.pc else s.pc + BitVec.ofNat 16 d.length := by
  unfold afterExecute; split <;> rfl
@[simp] theorem afterExecute_read (p : Addr) : (afterExecute d s).read p = s.read p := by
  unfold afterExecute; split <;> rfl

end

/-! ### Everything a meaning can do to the state -/

/-- The state an operation leaves before PC and CYC advance: nothing, one register, flags other than B, D and I, the
accumulator with flags, one byte of storage, one byte with flags, or PC. -/
inductive Effect (s : State) : State → Prop
  | nothing : Effect s s
  | setA (v : Byte) : Effect s (s.setA v)
  | setX (v : Byte) : Effect s (s.setX v)
  | setY (v : Byte) : Effect s (s.setY v)
  | setPc (v : Addr) : Effect s (s.setPc v)
  | setFlags (f : Flags) (hb : f.b = s.flags.b) (hd : f.d = s.flags.d) (hi : f.i = s.flags.i) : Effect s (s.setFlags f)
  | setFlagsA (f : Flags) (v : Byte) (hb : f.b = s.flags.b) (hd : f.d = s.flags.d) (hi : f.i = s.flags.i) :
      Effect s ((s.setFlags f).setA v)
  | write (p : Addr) (v : Byte) : Effect s (s.write p v)
  | writeFlags (f : Flags) (p : Addr) (v : Byte) (hb : f.b = s.flags.b) (hd : f.d = s.flags.d) (hi : f.i = s.flags.i) :
      Effect s ((s.setFlags f).write p v)

/-- The PC a branch's execute phase leaves (45_branch_jump.md R230). -/
theorem opBranch_pc (taken : Bool) (rel8 : Byte) (s : State) :
    (opBranch taken rel8 s).pc = if taken then s.pc + sext16 rel8 else s.pc := by
  cases taken <;> rfl

/-- A branch's execute phase writes PC and nothing else. -/
theorem opBranch_eq (taken : Bool) (rel8 : Byte) (s : State) :
    opBranch taken rel8 s = { s with pc := if taken then s.pc + sext16 rel8 else s.pc } := by
  cases taken <;> rfl

theorem Effect.branch (s : State) (taken : Bool) (rel8 : Byte) : Effect s (opBranch taken rel8 s) := by
  cases taken
  · exact .nothing
  · exact .setPc _

/-- A completed operation is an `Effect` with PC and CYC advanced. -/
theorem next_of_complete {i : Instr} {s u t : State} (h : complete i u = .next t) (he : Effect s u) :
    ∃ u, Effect s u ∧ t = afterExecute i.descriptor u :=
  ⟨u, he, (Host.Outcome.next.inj h).symm⟩

/-- If a meaning answers a next state, the instruction is executable and the state is that of some `Effect`, with PC and CYC
advanced. -/
theorem exec_next {i : Instr} {s t : State} (h : exec i s = .next t) :
    i.cls = .exec ∧ ∃ u, Effect s u ∧ t = afterExecute i.descriptor u := by
  cases i
  case ldaImm | ldaZp | ldaZpx | ldaAbs | ldaAbx | ldaAby | ldaIzx | ldaIzy =>
    exact ⟨rfl, next_of_complete h (.setA _)⟩
  case ldxImm | ldxZp | ldxZpy | ldxAbs | ldxAby | inx | dex =>
    exact ⟨rfl, next_of_complete h (.setX _)⟩
  case ldyImm | ldyZp | ldyZpx | ldyAbs | ldyAbx | iny | dey =>
    exact ⟨rfl, next_of_complete h (.setY _)⟩
  case staZp | staZpx | staAbs | staAbx | staAby | staIzx | staIzy | stxZp | stxZpy | stxAbs | styZp | styZpx | styAbs
      | incZp | incZpx | incAbs | incAbx | decZp | decZpx | decAbs | decAbx =>
    exact ⟨rfl, next_of_complete h (.write _ _)⟩
  case adcImm | adcZp | adcZpx | adcAbs | adcAbx | adcAby | adcIzx | adcIzy | andImm | andZp | andZpx | andAbs
      | andAbx | andAby | andIzx | andIzy | aslAcc =>
    exact ⟨rfl, next_of_complete h (.setFlagsA _ _ rfl rfl rfl)⟩
  case bitZp | bitAbs | cmpImm | cmpZp | cmpZpx | cmpAbs | cmpAbx | cmpAby | cmpIzx | cmpIzy | cpxImm | cpxZp | cpxAbs
      | cpyImm | cpyZp | cpyAbs =>
    exact ⟨rfl, next_of_complete h (.setFlags _ rfl rfl rfl)⟩
  case aslZp | aslZpx | aslAbs | aslAbx =>
    exact ⟨rfl, next_of_complete h (.writeFlags _ _ _ rfl rfl rfl)⟩
  case bpl | bmi | bvc | bvs | bcc | bcs | bne | beq =>
    exact ⟨rfl, next_of_complete h (.branch s _ _)⟩
  case jmpAbs | jmpInd =>
    exact ⟨rfl, next_of_complete h (.setPc _)⟩
  all_goals exact (fault_ne_next h).elim

/-- A meaning that faults belongs to a decode-only instruction and raises `UnimplementedOperation` with its entry and PC. -/
theorem exec_fault {i : Instr} {s : State} {f : Fault} (h : exec i s = .fault f) :
    i.cls = .decodeOnly ∧ f = .unimplementedOperation i.entry.op i.entry.mode s.pc := by
  cases i
  case oraImm | oraZp | oraZpx | oraAbs | oraAbx | oraAby | oraIzx | oraIzy | eorImm | eorZp | eorZpx | eorAbs
      | eorAbx | eorAby | eorIzx | eorIzy | sbcImm | sbcZp | sbcZpx | sbcAbs | sbcAbx | sbcAby | sbcIzx | sbcIzy
      | lsrAcc | lsrZp | lsrZpx | lsrAbs | lsrAbx | rolAcc | rolZp | rolZpx | rolAbs | rolAbx | rorAcc | rorZp
      | rorZpx | rorAbs | rorAbx | tax | tay | txa | tya | tsx | txs | pha | pla | php | plp | jsr | rts | rti | brk
      | nop | clc | sec | cli | sei | clv | cld | sed =>
    exact ⟨rfl, (Host.Outcome.fault.inj h).symm⟩
  all_goals exact (next_ne_fault h).elim

/-- No meaning refuses. -/
theorem exec_ne_refused (i : Instr) (s : State) (r : Refusal) : exec i s ≠ .refused r := by
  intro h
  cases hi : i.cls with
  | exec => cases i <;> first | exact refused_ne_next h.symm | cases hi
  | decodeOnly => cases i <;> first | exact refused_ne_fault h.symm | cases hi

/-! ### The shape of a step -/

/-- A step that completes has decoded an instruction, whose meaning completed. -/
theorem step_next {s t : State} (h : step s = .next t) :
    ∃ i, s.fetchDecode = some i ∧ exec i s.fetchIr = .next t := by
  unfold step at h
  split at h
  · exact (fault_ne_next h).elim
  · next i hi => exact ⟨i, hi, h⟩

theorem afterStep_of_next {s t : State} (h : step s = .next t) : s.afterStep = t := by
  simp [State.afterStep, h]

theorem afterStep_of_fault {s : State} {f : Fault} (h : step s = .fault f) : s.afterStep = s.fetchIr := by
  simp [State.afterStep, h]

/-- What stands at PC is the opcode byte of the instruction decoded there. -/
theorem fetchDecode_opcode {s : State} {i : Instr} (h : s.fetchDecode = some i) : s.operandByte 0 = i.opcode :=
  (decodeAt_some h).1.symm

end Sys2Proof.Machine
end

