-- ==== Sys2Proof/Tests/Slice0.lean ====
section
/-! SUPPORT. Tests. Every expected value comes from the spec: 30_encoding.md rule R87 (bytes), 95_test_vectors.md (steps, accesses,
decoder, encoder, reset) or hand calculation from the rule named. The last part shows a concrete state for the hypotheses of every
statement that has some. -/

namespace Sys2Proof.Tests

open Sys2Proof Sys2Proof.Machine

/-! ### Helpers -/

/-- The reset state with bytes placed from `pc` on and PC there. -/
def at_ (pc : Addr) (bytes : List Byte) : State := (State.reset.writeBytes pc bytes).setPc pc

/-- The same at the reset vector of this core, 0x8000. -/
def prog (bytes : List Byte) : State := at_ 0x8000 bytes

/-- Further bytes of storage. -/
def put (s : State) (cells : List (Addr × Byte)) : State := cells.foldl (fun t c => t.write c.1 c.2) s

/-- The state a completed step leaves. -/
def stepped (s : State) : Option State :=
  match step s with
  | .next t => some t
  | .fault _ => none
  | .refused _ => none

/-- N, V, Z, C, as the vectors write them. -/
def nvzc (s : State) : List Bool := [s.flags.n, s.flags.v, s.flags.z, s.flags.c]

/-- Reads and writes as the vectors write them: an address, and whether it is a write. -/
def accOf (s : State) : List (Bool × Addr) :=
  (sequencer s).accesses.map fun
    | .read a => (false, a)
    | .write a _ => (true, a)

def r_ (a : Addr) : Bool × Addr := (false, a)
def w_ (a : Addr) : Bool × Addr := (true, a)

/-! ### WellFormed: one ill-formed draft for each check, and a well-formed one beside it -/

/-- STA has no immediate form (40_step_and_addressing.md R145). -/
theorem test_wellFormed_refuses_illegal_pair : Draft.wellFormed ⟨⟨.sta, .imm⟩, [0x12]⟩ = false := by decide

/-- LDX is indexed by Y, not by X. -/
theorem test_wellFormed_refuses_other_index : Draft.wellFormed ⟨⟨.ldx, .zpx⟩, [0x12]⟩ = false := by decide

/-- JMP ABS takes two operand bytes (30_encoding.md R91). -/
theorem test_wellFormed_refuses_short_operands : Draft.wellFormed ⟨⟨.jmp, .abs⟩, [0x05]⟩ = false := by decide

/-- INX takes none. -/
theorem test_wellFormed_refuses_extra_operand : Draft.wellFormed ⟨⟨.inx, .imp⟩, [0x00]⟩ = false := by decide

theorem test_wellFormed_accepts : Draft.wellFormed ⟨⟨.jmp, .abs⟩, [0x05, 0x80]⟩ = true := by decide

/-! ### Decoding: every row of the opcode table, its byte from R87, operand bytes 34 and 12 -/

theorem test_decode_lda :
  decode [0xA9, 0x34] = .ok (.ldaImm 0x34, []) ∧
  decode [0xA5, 0x34] = .ok (.ldaZp 0x34, []) ∧
  decode [0xB5, 0x34] = .ok (.ldaZpx 0x34, []) ∧
  decode [0xAD, 0x34, 0x12] = .ok (.ldaAbs 0x1234, []) ∧
  decode [0xBD, 0x34, 0x12] = .ok (.ldaAbx 0x1234, []) ∧
  decode [0xB9, 0x34, 0x12] = .ok (.ldaAby 0x1234, []) ∧
  decode [0xA1, 0x34] = .ok (.ldaIzx 0x34, []) ∧
  decode [0xB1, 0x34] = .ok (.ldaIzy 0x34, []) := by decide

theorem test_decode_ldx :
  decode [0xA2, 0x34] = .ok (.ldxImm 0x34, []) ∧
  decode [0xA6, 0x34] = .ok (.ldxZp 0x34, []) ∧
  decode [0xB6, 0x34] = .ok (.ldxZpy 0x34, []) ∧
  decode [0xAE, 0x34, 0x12] = .ok (.ldxAbs 0x1234, []) ∧
  decode [0xBE, 0x34, 0x12] = .ok (.ldxAby 0x1234, []) := by decide

theorem test_decode_ldy :
  decode [0xA0, 0x34] = .ok (.ldyImm 0x34, []) ∧
  decode [0xA4, 0x34] = .ok (.ldyZp 0x34, []) ∧
  decode [0xB4, 0x34] = .ok (.ldyZpx 0x34, []) ∧
  decode [0xAC, 0x34, 0x12] = .ok (.ldyAbs 0x1234, []) ∧
  decode [0xBC, 0x34, 0x12] = .ok (.ldyAbx 0x1234, []) := by decide

theorem test_decode_sta :
  decode [0x85, 0x34] = .ok (.staZp 0x34, []) ∧
  decode [0x95, 0x34] = .ok (.staZpx 0x34, []) ∧
  decode [0x8D, 0x34, 0x12] = .ok (.staAbs 0x1234, []) ∧
  decode [0x9D, 0x34, 0x12] = .ok (.staAbx 0x1234, []) ∧
  decode [0x99, 0x34, 0x12] = .ok (.staAby 0x1234, []) ∧
  decode [0x81, 0x34] = .ok (.staIzx 0x34, []) ∧
  decode [0x91, 0x34] = .ok (.staIzy 0x34, []) := by decide

theorem test_decode_stx :
  decode [0x86, 0x34] = .ok (.stxZp 0x34, []) ∧
  decode [0x96, 0x34] = .ok (.stxZpy 0x34, []) ∧
  decode [0x8E, 0x34, 0x12] = .ok (.stxAbs 0x1234, []) := by decide

theorem test_decode_sty :
  decode [0x84, 0x34] = .ok (.styZp 0x34, []) ∧
  decode [0x94, 0x34] = .ok (.styZpx 0x34, []) ∧
  decode [0x8C, 0x34, 0x12] = .ok (.styAbs 0x1234, []) := by decide

theorem test_decode_adc :
  decode [0x69, 0x34] = .ok (.adcImm 0x34, []) ∧
  decode [0x65, 0x34] = .ok (.adcZp 0x34, []) ∧
  decode [0x75, 0x34] = .ok (.adcZpx 0x34, []) ∧
  decode [0x6D, 0x34, 0x12] = .ok (.adcAbs 0x1234, []) ∧
  decode [0x7D, 0x34, 0x12] = .ok (.adcAbx 0x1234, []) ∧
  decode [0x79, 0x34, 0x12] = .ok (.adcAby 0x1234, []) ∧
  decode [0x61, 0x34] = .ok (.adcIzx 0x34, []) ∧
  decode [0x71, 0x34] = .ok (.adcIzy 0x34, []) := by decide

theorem test_decode_and :
  decode [0x29, 0x34] = .ok (.andImm 0x34, []) ∧
  decode [0x25, 0x34] = .ok (.andZp 0x34, []) ∧
  decode [0x35, 0x34] = .ok (.andZpx 0x34, []) ∧
  decode [0x2D, 0x34, 0x12] = .ok (.andAbs 0x1234, []) ∧
  decode [0x3D, 0x34, 0x12] = .ok (.andAbx 0x1234, []) ∧
  decode [0x39, 0x34, 0x12] = .ok (.andAby 0x1234, []) ∧
  decode [0x21, 0x34] = .ok (.andIzx 0x34, []) ∧
  decode [0x31, 0x34] = .ok (.andIzy 0x34, []) := by decide

theorem test_decode_bit :
  decode [0x24, 0x34] = .ok (.bitZp 0x34, []) ∧
  decode [0x2C, 0x34, 0x12] = .ok (.bitAbs 0x1234, []) := by decide

theorem test_decode_asl :
  decode [0x0A] = .ok (.aslAcc, []) ∧
  decode [0x06, 0x34] = .ok (.aslZp 0x34, []) ∧
  decode [0x16, 0x34] = .ok (.aslZpx 0x34, []) ∧
  decode [0x0E, 0x34, 0x12] = .ok (.aslAbs 0x1234, []) ∧
  decode [0x1E, 0x34, 0x12] = .ok (.aslAbx 0x1234, []) := by decide

theorem test_decode_inc :
  decode [0xE6, 0x34] = .ok (.incZp 0x34, []) ∧
  decode [0xF6, 0x34] = .ok (.incZpx 0x34, []) ∧
  decode [0xEE, 0x34, 0x12] = .ok (.incAbs 0x1234, []) ∧
  decode [0xFE, 0x34, 0x12] = .ok (.incAbx 0x1234, []) := by decide

theorem test_decode_dec :
  decode [0xC6, 0x34] = .ok (.decZp 0x34, []) ∧
  decode [0xD6, 0x34] = .ok (.decZpx 0x34, []) ∧
  decode [0xCE, 0x34, 0x12] = .ok (.decAbs 0x1234, []) ∧
  decode [0xDE, 0x34, 0x12] = .ok (.decAbx 0x1234, []) := by decide

theorem test_decode_inx :
  decode [0xE8] = .ok (.inx, []) := by decide

theorem test_decode_iny :
  decode [0xC8] = .ok (.iny, []) := by decide

theorem test_decode_dex :
  decode [0xCA] = .ok (.dex, []) := by decide

theorem test_decode_dey :
  decode [0x88] = .ok (.dey, []) := by decide

theorem test_decode_cmp :
  decode [0xC9, 0x34] = .ok (.cmpImm 0x34, []) ∧
  decode [0xC5, 0x34] = .ok (.cmpZp 0x34, []) ∧
  decode [0xD5, 0x34] = .ok (.cmpZpx 0x34, []) ∧
  decode [0xCD, 0x34, 0x12] = .ok (.cmpAbs 0x1234, []) ∧
  decode [0xDD, 0x34, 0x12] = .ok (.cmpAbx 0x1234, []) ∧
  decode [0xD9, 0x34, 0x12] = .ok (.cmpAby 0x1234, []) ∧
  decode [0xC1, 0x34] = .ok (.cmpIzx 0x34, []) ∧
  decode [0xD1, 0x34] = .ok (.cmpIzy 0x34, []) := by decide

theorem test_decode_cpx :
  decode [0xE0, 0x34] = .ok (.cpxImm 0x34, []) ∧
  decode [0xE4, 0x34] = .ok (.cpxZp 0x34, []) ∧
  decode [0xEC, 0x34, 0x12] = .ok (.cpxAbs 0x1234, []) := by decide

theorem test_decode_cpy :
  decode [0xC0, 0x34] = .ok (.cpyImm 0x34, []) ∧
  decode [0xC4, 0x34] = .ok (.cpyZp 0x34, []) ∧
  decode [0xCC, 0x34, 0x12] = .ok (.cpyAbs 0x1234, []) := by decide

theorem test_decode_bpl :
  decode [0x10, 0x34] = .ok (.bpl 0x34, []) := by decide

theorem test_decode_bmi :
  decode [0x30, 0x34] = .ok (.bmi 0x34, []) := by decide

theorem test_decode_bvc :
  decode [0x50, 0x34] = .ok (.bvc 0x34, []) := by decide

theorem test_decode_bvs :
  decode [0x70, 0x34] = .ok (.bvs 0x34, []) := by decide

theorem test_decode_bcc :
  decode [0x90, 0x34] = .ok (.bcc 0x34, []) := by decide

theorem test_decode_bcs :
  decode [0xB0, 0x34] = .ok (.bcs 0x34, []) := by decide

theorem test_decode_bne :
  decode [0xD0, 0x34] = .ok (.bne 0x34, []) := by decide

theorem test_decode_beq :
  decode [0xF0, 0x34] = .ok (.beq 0x34, []) := by decide

theorem test_decode_jmp :
  decode [0x4C, 0x34, 0x12] = .ok (.jmpAbs 0x1234, []) ∧
  decode [0x6C, 0x34, 0x12] = .ok (.jmpInd 0x1234, []) := by decide

theorem test_decode_ora :
  decode [0x09, 0x34] = .ok (.oraImm 0x34, []) ∧
  decode [0x05, 0x34] = .ok (.oraZp 0x34, []) ∧
  decode [0x15, 0x34] = .ok (.oraZpx 0x34, []) ∧
  decode [0x0D, 0x34, 0x12] = .ok (.oraAbs 0x1234, []) ∧
  decode [0x1D, 0x34, 0x12] = .ok (.oraAbx 0x1234, []) ∧
  decode [0x19, 0x34, 0x12] = .ok (.oraAby 0x1234, []) ∧
  decode [0x01, 0x34] = .ok (.oraIzx 0x34, []) ∧
  decode [0x11, 0x34] = .ok (.oraIzy 0x34, []) := by decide

theorem test_decode_eor :
  decode [0x49, 0x34] = .ok (.eorImm 0x34, []) ∧
  decode [0x45, 0x34] = .ok (.eorZp 0x34, []) ∧
  decode [0x55, 0x34] = .ok (.eorZpx 0x34, []) ∧
  decode [0x4D, 0x34, 0x12] = .ok (.eorAbs 0x1234, []) ∧
  decode [0x5D, 0x34, 0x12] = .ok (.eorAbx 0x1234, []) ∧
  decode [0x59, 0x34, 0x12] = .ok (.eorAby 0x1234, []) ∧
  decode [0x41, 0x34] = .ok (.eorIzx 0x34, []) ∧
  decode [0x51, 0x34] = .ok (.eorIzy 0x34, []) := by decide

theorem test_decode_sbc :
  decode [0xE9, 0x34] = .ok (.sbcImm 0x34, []) ∧
  decode [0xE5, 0x34] = .ok (.sbcZp 0x34, []) ∧
  decode [0xF5, 0x34] = .ok (.sbcZpx 0x34, []) ∧
  decode [0xED, 0x34, 0x12] = .ok (.sbcAbs 0x1234, []) ∧
  decode [0xFD, 0x34, 0x12] = .ok (.sbcAbx 0x1234, []) ∧
  decode [0xF9, 0x34, 0x12] = .ok (.sbcAby 0x1234, []) ∧
  decode [0xE1, 0x34] = .ok (.sbcIzx 0x34, []) ∧
  decode [0xF1, 0x34] = .ok (.sbcIzy 0x34, []) := by decide

theorem test_decode_lsr :
  decode [0x4A] = .ok (.lsrAcc, []) ∧
  decode [0x46, 0x34] = .ok (.lsrZp 0x34, []) ∧
  decode [0x56, 0x34] = .ok (.lsrZpx 0x34, []) ∧
  decode [0x4E, 0x34, 0x12] = .ok (.lsrAbs 0x1234, []) ∧
  decode [0x5E, 0x34, 0x12] = .ok (.lsrAbx 0x1234, []) := by decide

theorem test_decode_rol :
  decode [0x2A] = .ok (.rolAcc, []) ∧
  decode [0x26, 0x34] = .ok (.rolZp 0x34, []) ∧
  decode [0x36, 0x34] = .ok (.rolZpx 0x34, []) ∧
  decode [0x2E, 0x34, 0x12] = .ok (.rolAbs 0x1234, []) ∧
  decode [0x3E, 0x34, 0x12] = .ok (.rolAbx 0x1234, []) := by decide

theorem test_decode_ror :
  decode [0x6A] = .ok (.rorAcc, []) ∧
  decode [0x66, 0x34] = .ok (.rorZp 0x34, []) ∧
  decode [0x76, 0x34] = .ok (.rorZpx 0x34, []) ∧
  decode [0x6E, 0x34, 0x12] = .ok (.rorAbs 0x1234, []) ∧
  decode [0x7E, 0x34, 0x12] = .ok (.rorAbx 0x1234, []) := by decide

theorem test_decode_tax :
  decode [0xAA] = .ok (.tax, []) := by decide

theorem test_decode_tay :
  decode [0xA8] = .ok (.tay, []) := by decide

theorem test_decode_txa :
  decode [0x8A] = .ok (.txa, []) := by decide

theorem test_decode_tya :
  decode [0x98] = .ok (.tya, []) := by decide

theorem test_decode_tsx :
  decode [0xBA] = .ok (.tsx, []) := by decide

theorem test_decode_txs :
  decode [0x9A] = .ok (.txs, []) := by decide

theorem test_decode_pha :
  decode [0x48] = .ok (.pha, []) := by decide

theorem test_decode_pla :
  decode [0x68] = .ok (.pla, []) := by decide

theorem test_decode_php :
  decode [0x08] = .ok (.php, []) := by decide

theorem test_decode_plp :
  decode [0x28] = .ok (.plp, []) := by decide

theorem test_decode_jsr :
  decode [0x20, 0x34, 0x12] = .ok (.jsr 0x1234, []) := by decide

theorem test_decode_rts :
  decode [0x60] = .ok (.rts, []) := by decide

theorem test_decode_rti :
  decode [0x40] = .ok (.rti, []) := by decide

theorem test_decode_brk :
  decode [0x00] = .ok (.brk, []) := by decide

theorem test_decode_nop :
  decode [0xEA] = .ok (.nop, []) := by decide

theorem test_decode_clc :
  decode [0x18] = .ok (.clc, []) := by decide

theorem test_decode_sec :
  decode [0x38] = .ok (.sec, []) := by decide

theorem test_decode_cli :
  decode [0x58] = .ok (.cli, []) := by decide

theorem test_decode_sei :
  decode [0x78] = .ok (.sei, []) := by decide

theorem test_decode_clv :
  decode [0xB8] = .ok (.clv, []) := by decide

theorem test_decode_cld :
  decode [0xD8] = .ok (.cld, []) := by decide

theorem test_decode_sed :
  decode [0xF8] = .ok (.sed, []) := by decide

/-- 151 rows, 90 of class EXEC and 61 of class DECODE_ONLY (30_encoding.md R87, R88). -/
theorem test_table_counts :
    opcodeTable.length = 151 ∧ (opcodeTable.countP fun r => r.descriptor.cls = .exec) = 90 ∧
      (opcodeTable.countP fun r => r.descriptor.cls = .decodeOnly) = 61 := ⟨rfl, rfl, rfl⟩

/-- Some descriptors of 95_test_vectors.md section 2.11. -/
theorem test_descriptors :
    decodeByte 0xA9 = some ⟨.lda, .imm, 2, 2, .exec⟩ ∧ decodeByte 0xA1 = some ⟨.lda, .izx, 2, 6, .exec⟩ ∧
    decodeByte 0x6C = some ⟨.jmp, .ind, 3, 5, .exec⟩ ∧ decodeByte 0x1E = some ⟨.asl, .abx, 3, 7, .exec⟩ ∧
    decodeByte 0xEA = some ⟨.nop, .imp, 1, 2, .decodeOnly⟩ ∧ decodeByte 0x00 = some ⟨.brk, .imp, 1, 7, .decodeOnly⟩ ∧
    decodeByte 0x20 = some ⟨.jsr, .abs, 3, 6, .decodeOnly⟩ ∧ decodeByte 0xE9 = some ⟨.sbc, .imm, 2, 2, .decodeOnly⟩ := by decide

/-- Illegal bytes (95_test_vectors.md section 2.11), an empty list and a list that ends too early. -/
theorem test_decode_rejections :
    decode [0x02] = .error (.unknownOpcode 0x02) ∧ decode [0x80, 0x00] = .error (.unknownOpcode 0x80) ∧
    decode [0x89] = .error (.unknownOpcode 0x89) ∧ decode [0xFF] = .error (.unknownOpcode 0xFF) ∧
    decode [] = .error .empty ∧ decode [0xAD, 0x34] = .error (.truncated 3 2) := by decide

/-- The host's numbering: the first byte lowest, operand bytes above. -/
theorem test_decodeTableWord :
    decodeTableWord 8 0xAD = some (.ldaAbs 0x0000) ∧ decodeTableWord 24 0x1234AD = some (.ldaAbs 0x1234) ∧
    decodeTableWord 16 0xFBD0 = some (.bne 0xFB) ∧ decodeTableWord 8 0x02 = none := by decide

/-- `step` fetches what `withFetchWord` stores. -/
theorem test_withFetchWord :
    step (State.reset.withFetchWord 24 0x80054C) = exec (.jmpAbs 0x8005) (State.reset.withFetchWord 24 0x80054C).fetchIr ∧
    step (State.reset.withFetchWord 8 0xE8) = exec .inx (State.reset.withFetchWord 8 0xE8).fetchIr := ⟨rfl, rfl⟩

/-! ### Encoding (95_test_vectors.md section 2.11) -/

theorem test_encode :
    encode (.ldaImm 0x12) = [0xA9, 0x12] ∧ encode (.jmpAbs 0x8005) = [0x4C, 0x05, 0x80] ∧ encode .inx = [0xE8] ∧
    encode .pha = [0x48] := by decide

theorem test_encodeEntry_accepts :
    (encodeEntry ⟨⟨.lda, .imm⟩, [0x12]⟩).map Encoded.bytes = .ok [0xA9, 0x12] ∧
    (encodeEntry ⟨⟨.jmp, .abs⟩, [0x05, 0x80]⟩).map Encoded.bytes = .ok [0x4C, 0x05, 0x80] ∧
    (encodeEntry ⟨⟨.pha, .imp⟩, []⟩).map Encoded.bytes = .ok [0x48] := ⟨rfl, rfl, rfl⟩

theorem test_encodeEntry_counts :
    (encodeEntry ⟨⟨.lda, .imm⟩, []⟩) = .error (.operandCountMismatch 1 0) ∧
    (encodeEntry ⟨⟨.lda, .imm⟩, [0x12, 0x34]⟩) = .error (.operandCountMismatch 1 2) ∧
    (encodeEntry ⟨⟨.jmp, .abs⟩, [0x05]⟩) = .error (.operandCountMismatch 2 1) ∧
    (encodeEntry ⟨⟨.inx, .imp⟩, [0x00]⟩) = .error (.operandCountMismatch 0 1) ∧
    (encodeEntry ⟨⟨.sta, .imm⟩, [0x00]⟩) = .error .noSuchEntry := ⟨rfl, rfl, rfl, rfl, rfl⟩

/-! ### Steps: loads (95_test_vectors.md sections 1.1 and 2.1) -/

/-- SIM scenario 1. -/
theorem test_lda_imm :
    (stepped (prog [0xA9, 0x12])).map (fun t => (t.a, t.pc, t.cyc, t.ir, nvzc t)) = some (0x12, 0x8002, 2, 0xA9, [false, false, false, false]) ∧
    accOf (prog [0xA9, 0x12]) = [r_ 0x8000, r_ 0x8001] := by decide

/-- PC wrap at 0xFFFF. -/
theorem test_lda_imm_pc_wraps :
    (stepped (at_ 0xFFFF [0xA9, 0x5C])).map (fun t => (t.a, t.pc)) = some (0x5C, 0x0001) ∧
    accOf (at_ 0xFFFF [0xA9, 0x5C]) = [r_ 0xFFFF, r_ 0x0000] := by decide

/-- By hand from R133, R160. -/
theorem test_lda_zp :
    (stepped (put (prog [0xA5, 0x10]) [(0x0010, 0x80)])).map (fun t => (t.a, t.pc, t.cyc, nvzc t)) = some (0x80, 0x8002, 3, [false, false, false, false]) := by decide

theorem test_lda_zpx :
    (stepped ((put (prog [0xB5, 0x80]) [(0x0085, 0x11)]).setX 0x05)).map (fun t => (t.a, t.cyc)) = some (0x11, 4) ∧
    accOf ((put (prog [0xB5, 0x80]) [(0x0085, 0x11)]).setX 0x05) = [r_ 0x8000, r_ 0x8001, r_ 0x0085] := by decide

/-- Zero-page wrap. -/
theorem test_lda_zpx_wraps :
    (stepped ((put (prog [0xB5, 0xF0]) [(0x0010, 0x22), (0x0110, 0x99)]).setX 0x20)).map (fun t => (t.a, t.cyc)) = some (0x22, 4) ∧
    accOf ((put (prog [0xB5, 0xF0]) [(0x0010, 0x22), (0x0110, 0x99)]).setX 0x20) = [r_ 0x8000, r_ 0x8001, r_ 0x0010] := by decide

/-- PC wrap at 0xFFFE. -/
theorem test_lda_abs_pc_wraps :
    (stepped (put (at_ 0xFFFE [0xAD, 0x34, 0x12]) [(0x1234, 0x6D)])).map (fun t => (t.a, t.pc, t.cyc)) = some (0x6D, 0x0001, 4) ∧
    accOf (put (at_ 0xFFFE [0xAD, 0x34, 0x12]) [(0x1234, 0x6D)]) = [r_ 0xFFFE, r_ 0xFFFF, r_ 0x0000, r_ 0x1234] := by decide

/-- No penalty. -/
theorem test_lda_abx_page_crossed :
    (stepped ((put (prog [0xBD, 0xF0, 0x12]) [(0x1310, 0x44)]).setX 0x20)).map (fun t => (t.a, t.pc, t.cyc)) = some (0x44, 0x8003, 4) ∧
    accOf ((put (prog [0xBD, 0xF0, 0x12]) [(0x1310, 0x44)]).setX 0x20) = [r_ 0x8000, r_ 0x8001, r_ 0x8002, r_ 0x1310] := by decide

/-- 16-bit wrap. -/
theorem test_lda_abx_wraps :
    (stepped ((put (prog [0xBD, 0xFF, 0xFF]) [(0x0001, 0x55)]).setX 0x02)).map (fun t => (t.a, t.cyc)) = some (0x55, 4) ∧
    accOf ((put (prog [0xBD, 0xFF, 0xFF]) [(0x0001, 0x55)]).setX 0x02) = [r_ 0x8000, r_ 0x8001, r_ 0x8002, r_ 0x0001] := by decide

/-- 16-bit wrap. -/
theorem test_lda_aby_wraps :
    (stepped ((put (prog [0xB9, 0xF0, 0xFF]) [(0x0010, 0x66)]).setY 0x20)).map (fun t => (t.a, t.cyc)) = some (0x66, 4) ∧
    accOf ((put (prog [0xB9, 0xF0, 0xFF]) [(0x0010, 0x66)]).setY 0x20) = [r_ 0x8000, r_ 0x8001, r_ 0x8002, r_ 0x0010] := by decide

/-- SIM scenario 6. -/
theorem test_lda_izx :
    (stepped ((put (prog [0xA1, 0x20]) [(0x0022, 0x10), (0x0023, 0xFF), (0xFF10, 0xAA)]).setX 0x02)).map (fun t => (t.a, t.pc, t.cyc)) = some (0xAA, 0x8002, 6) ∧
    accOf ((put (prog [0xA1, 0x20]) [(0x0022, 0x10), (0x0023, 0xFF), (0xFF10, 0xAA)]).setX 0x02) = [r_ 0x8000, r_ 0x8001, r_ 0x0022, r_ 0x0023, r_ 0xFF10] := by decide

/-- Pointer at 0xFF and 0x00. -/
theorem test_lda_izx_pointer_wraps :
    (stepped ((put (prog [0xA1, 0xFE]) [(0x00FF, 0x34), (0x0000, 0x12), (0x0100, 0x99), (0x1234, 0x77)]).setX 0x01)).map (fun t => (t.a, t.cyc)) = some (0x77, 6) ∧
    accOf ((put (prog [0xA1, 0xFE]) [(0x00FF, 0x34), (0x0000, 0x12), (0x0100, 0x99), (0x1234, 0x77)]).setX 0x01) = [r_ 0x8000, r_ 0x8001, r_ 0x00FF, r_ 0x0000, r_ 0x1234] := by decide

theorem test_lda_izy :
    (stepped ((put (prog [0xB1, 0x40]) [(0x0040, 0x00), (0x0041, 0x02), (0x0203, 0x5A)]).setY 0x03)).map (fun t => (t.a, t.cyc)) = some (0x5A, 5) ∧
    accOf ((put (prog [0xB1, 0x40]) [(0x0040, 0x00), (0x0041, 0x02), (0x0203, 0x5A)]).setY 0x03) = [r_ 0x8000, r_ 0x8001, r_ 0x0040, r_ 0x0041, r_ 0x0203] := by decide

/-- Pointer at 0xFF and 0x00 (decision D7). -/
theorem test_lda_izy_pointer_wraps :
    (stepped ((put (prog [0xB1, 0xFF]) [(0x00FF, 0xFF), (0x0000, 0x02), (0x0100, 0x99), (0x0300, 0x9A)]).setY 0x01)).map (fun t => (t.a, t.cyc)) = some (0x9A, 5) ∧
    accOf ((put (prog [0xB1, 0xFF]) [(0x00FF, 0xFF), (0x0000, 0x02), (0x0100, 0x99), (0x0300, 0x9A)]).setY 0x01) = [r_ 0x8000, r_ 0x8001, r_ 0x00FF, r_ 0x0000, r_ 0x0300] := by decide

/-- Z stays 0. -/
theorem test_ldx_imm :
    (stepped ((prog [0xA2, 0x00]).setX 0x55)).map (fun t => (t.x, t.pc, t.cyc, nvzc t)) = some (0x00, 0x8002, 2, [false, false, false, false]) := by decide

/-- Zero-page wrap; the index is Y. -/
theorem test_ldx_zpy_wraps :
    (stepped ((put (prog [0xB6, 0xFF]) [(0x0000, 0x33), (0x0100, 0x99)]).setY 0x01)).map (fun t => (t.x, t.cyc)) = some (0x33, 4) ∧
    accOf ((put (prog [0xB6, 0xFF]) [(0x0000, 0x33), (0x0100, 0x99)]).setY 0x01) = [r_ 0x8000, r_ 0x8001, r_ 0x0000] := by decide

/-- N stays 0. -/
theorem test_ldy_imm :
    (stepped (prog [0xA0, 0x80])).map (fun t => (t.y, t.pc, t.cyc, nvzc t)) = some (0x80, 0x8002, 2, [false, false, false, false]) := by decide

/-- By hand from R137, R162: the index is X. -/
theorem test_ldy_abx :
    (stepped (((put (prog [0xBC, 0x00, 0x02]) [(0x0203, 0x7E)]).setX 0x03).setY 0x09)).map (fun t => (t.y, t.x, t.pc, t.cyc)) = some (0x7E, 0x03, 0x8003, 4) := by decide

/-! ### Steps: stores (sections 1.1 and 2.2) -/

/-- SIM scenario 2. -/
theorem test_sta_zp :
    (stepped ((prog [0x85, 0x10]).setA 0x11)).map (fun t => (t.read 0x0010, t.pc, t.cyc)) = some (0x11, 0x8002, 3) ∧
    accOf ((prog [0x85, 0x10]).setA 0x11) = [r_ 0x8000, r_ 0x8001, w_ 0x0010] := by decide

theorem test_sta_abs_into_rom_region :
    (stepped ((prog [0x8D, 0x06, 0x80]).setA 0x77)).map (fun t => (t.read 0x8006, t.cyc)) = some (0x77, 4) ∧
    accOf ((prog [0x8D, 0x06, 0x80]).setA 0x77) = [r_ 0x8000, r_ 0x8001, r_ 0x8002, w_ 0x8006] := by decide

theorem test_sta_abx :
    (stepped (((prog [0x9D, 0xF8, 0x02]).setA 0xCC).setX 0x10)).map (fun t => (t.read 0x0308, t.cyc)) = some (0xCC, 5) ∧
    accOf (((prog [0x9D, 0xF8, 0x02]).setA 0xCC).setX 0x10) = [r_ 0x8000, r_ 0x8001, r_ 0x8002, w_ 0x0308] := by decide

theorem test_sta_izx :
    (stepped (((put (prog [0x81, 0x20]) [(0x0022, 0x10), (0x0023, 0xFF)]).setA 0xEE).setX 0x02)).map (fun t => (t.read 0xFF10, t.cyc)) = some (0xEE, 6) ∧
    accOf (((put (prog [0x81, 0x20]) [(0x0022, 0x10), (0x0023, 0xFF)]).setA 0xEE).setX 0x02) = [r_ 0x8000, r_ 0x8001, r_ 0x0022, r_ 0x0023, w_ 0xFF10] := by decide

theorem test_sta_izy :
    (stepped (((put (prog [0x91, 0x40]) [(0x0040, 0xF8), (0x0041, 0x02)]).setA 0xDD).setY 0x10)).map (fun t => (t.read 0x0308, t.cyc)) = some (0xDD, 6) ∧
    accOf (((put (prog [0x91, 0x40]) [(0x0040, 0xF8), (0x0041, 0x02)]).setA 0xDD).setY 0x10) = [r_ 0x8000, r_ 0x8001, r_ 0x0040, r_ 0x0041, w_ 0x0308] := by decide

theorem test_stx_zpy_wraps :
    (stepped (((prog [0x96, 0xFF]).setX 0x42).setY 0x01)).map (fun t => (t.read 0x0000, t.cyc)) = some (0x42, 4) ∧
    accOf (((prog [0x96, 0xFF]).setX 0x42).setY 0x01) = [r_ 0x8000, r_ 0x8001, w_ 0x0000] := by decide

theorem test_sty_zpx_wraps :
    (stepped (((prog [0x94, 0x80]).setY 0x9C).setX 0x90)).map (fun t => (t.read 0x0010, t.cyc)) = some (0x9C, 4) ∧
    accOf (((prog [0x94, 0x80]).setY 0x9C).setX 0x90) = [r_ 0x8000, r_ 0x8001, w_ 0x0010] := by decide

/-! ### Steps: ADC, AND, BIT (sections 1.1 and 2.3 to 2.5) -/

/-- One step of a one-operand instruction on a start state with the given carry and V: the result of A and N V Z C. -/
def alu (s : State) (v c : Bool) : Option (Byte × List Bool) :=
  (stepped { s with flags := { s.flags with v := v, c := c } }).map fun t => (t.a, nvzc t)

/-- Section 2.3, rows 1 to 8. -/
theorem test_adc_rows :
  alu ((prog [0x69, 0x20]).setA 0x10) true false = some (0x30, [false, false, false, false]) ∧
  alu ((prog [0x69, 0x01]).setA 0x7F) true false = some (0x80, [true, true, false, false]) ∧
  alu ((prog [0x69, 0x01]).setA 0xFF) true false = some (0x00, [false, false, true, true]) ∧
  alu ((prog [0x69, 0x01]).setA 0xFF) true true = some (0x00, [false, false, true, true]) ∧
  alu ((prog [0x69, 0x80]).setA 0x80) true false = some (0x00, [false, true, true, true]) ∧
  alu ((prog [0x69, 0x50]).setA 0x50) true false = some (0xA0, [true, true, false, false]) ∧
  alu ((prog [0x69, 0xD0]).setA 0x50) true false = some (0x20, [false, false, false, true]) ∧
  alu ((prog [0x69, 0x90]).setA 0xD0) true false = some (0x60, [false, true, false, true]) := by decide

/-- Section 2.3, rows 9 to 15: the carry flag is no addend. -/
theorem test_adc_rows_carry :
  alu ((prog [0x69, 0x00]).setA 0x00) true false = some (0x00, [false, false, true, false]) ∧
  alu ((prog [0x69, 0x00]).setA 0x00) true true = some (0x00, [false, false, true, false]) ∧
  alu ((prog [0x69, 0xFF]).setA 0xFF) true false = some (0xFE, [true, false, false, true]) ∧
  alu ((prog [0x69, 0x7F]).setA 0x7F) true true = some (0xFE, [true, true, false, false]) ∧
  alu ((prog [0x69, 0xFF]).setA 0x80) true false = some (0x7F, [false, true, false, true]) ∧
  alu ((prog [0x69, 0xFF]).setA 0x01) true false = some (0x00, [false, false, true, true]) ∧
  alu ((prog [0x69, 0x40]).setA 0x3F) true true = some (0x7F, [false, false, false, false]) := by decide

/-- Section 2.4. -/
theorem test_and_rows :
  alu ((prog [0x29, 0x8F]).setA 0xF0) true true = some (0x80, [true, true, false, true]) ∧
  alu ((prog [0x29, 0x00]).setA 0xFF) true true = some (0x00, [false, true, true, true]) ∧
  alu ((prog [0x29, 0xFF]).setA 0x00) true true = some (0x00, [false, true, true, true]) ∧
  alu ((prog [0x29, 0xAA]).setA 0x55) true true = some (0x00, [false, true, true, true]) ∧
  alu ((prog [0x29, 0xFF]).setA 0xFF) true true = some (0xFF, [true, true, false, true]) ∧
  alu ((prog [0x29, 0xFF]).setA 0x7F) true true = some (0x7F, [false, true, false, true]) ∧
  alu ((prog [0x29, 0x01]).setA 0x81) true true = some (0x01, [false, true, false, true]) := by decide

/-- Section 2.5: A and C are unchanged. -/
theorem test_bit_rows :
  alu ((put (prog [0x24, 0x50]) [(0x0050, 0xB5)]).setA 0xB4) false true = some (0xB4, [true, false, false, true]) ∧
  alu ((put (prog [0x24, 0x50]) [(0x0050, 0xFF)]).setA 0x00) false true = some (0x00, [true, true, true, true]) ∧
  alu ((put (prog [0x24, 0x50]) [(0x0050, 0xC0)]).setA 0x3F) false true = some (0x3F, [true, true, true, true]) ∧
  alu ((put (prog [0x24, 0x50]) [(0x0050, 0x00)]).setA 0xFF) false true = some (0xFF, [false, false, true, true]) ∧
  alu ((put (prog [0x24, 0x50]) [(0x0050, 0x41)]).setA 0x01) false true = some (0x01, [false, true, false, true]) ∧
  alu ((put (prog [0x24, 0x50]) [(0x0050, 0x80)]).setA 0x80) false true = some (0x80, [true, false, false, true]) ∧
  alu ((put (prog [0x24, 0x50]) [(0x0050, 0x3F)]).setA 0x40) false true = some (0x40, [false, false, true, true]) := by decide

/-! ### Steps: ASL, INC, DEC and the index registers (sections 2.6 and 2.7) -/

/-- Section 2.6, the accumulator form: V is unchanged, the old carry is not shifted in. -/
theorem test_asl_acc_rows :
  alu ((prog [0x0A]).setA 0x5A) true true = some (0xB4, [true, true, false, false]) ∧
  alu ((prog [0x0A]).setA 0x80) true true = some (0x00, [false, true, true, true]) ∧
  alu ((prog [0x0A]).setA 0x40) true true = some (0x80, [true, true, false, false]) ∧
  alu ((prog [0x0A]).setA 0x00) true true = some (0x00, [false, true, true, false]) ∧
  alu ((prog [0x0A]).setA 0xFF) true true = some (0xFE, [true, true, false, true]) ∧
  alu ((prog [0x0A]).setA 0x01) true true = some (0x02, [false, true, false, false]) ∧
  alu ((prog [0x0A]).setA 0xC0) true true = some (0x80, [true, true, false, true]) ∧
  alu ((prog [0x0A]).setA 0x7F) true true = some (0xFE, [true, true, false, false]) := by decide

/-- A is unchanged. -/
theorem test_asl_zp :
    (stepped ((put (prog [0x06, 0x10]) [(0x0010, 0x81)]).setA 0x55)).map (fun t => (t.read 0x0010, t.a, nvzc t, t.cyc)) = some (0x02, 0x55, [false, false, false, true], 5) ∧
    accOf ((put (prog [0x06, 0x10]) [(0x0010, 0x81)]).setA 0x55) = [r_ 0x8000, r_ 0x8001, r_ 0x0010, w_ 0x0010] := by decide

theorem test_asl_abx :
    (stepped ((put (prog [0x1E, 0x00, 0x02]) [(0x0204, 0x40)]).setX 0x04)).map (fun t => (t.read 0x0204, nvzc t, t.cyc)) = some (0x80, [true, false, false, false], 7) ∧
    accOf ((put (prog [0x1E, 0x00, 0x02]) [(0x0204, 0x40)]).setX 0x04) = [r_ 0x8000, r_ 0x8001, r_ 0x8002, r_ 0x0204, w_ 0x0204] := by decide

theorem test_inc_zp :
    (stepped (put (prog [0xE6, 0x10]) [(0x0010, 0x7F)])).map (fun t => (t.read 0x0010, nvzc t, t.cyc)) = some (0x80, [false, false, false, false], 5) ∧
    accOf (put (prog [0xE6, 0x10]) [(0x0010, 0x7F)]) = [r_ 0x8000, r_ 0x8001, r_ 0x0010, w_ 0x0010] := by decide

theorem test_inc_zpx_wraps :
    (stepped ((put (prog [0xF6, 0xFF]) [(0x0001, 0xFF)]).setX 0x02)).map (fun t => (t.read 0x0001, nvzc t, t.cyc)) = some (0x00, [false, false, false, false], 6) ∧
    accOf ((put (prog [0xF6, 0xFF]) [(0x0001, 0xFF)]).setX 0x02) = [r_ 0x8000, r_ 0x8001, r_ 0x0001, w_ 0x0001] := by decide

theorem test_dec_abs_wraps :
    (stepped (prog [0xCE, 0x00, 0x03])).map (fun t => (t.read 0x0300, nvzc t, t.cyc)) = some (0xFF, [false, false, false, false], 6) ∧
    accOf (prog [0xCE, 0x00, 0x03]) = [r_ 0x8000, r_ 0x8001, r_ 0x8002, r_ 0x0300, w_ 0x0300] := by decide

theorem test_inx_wraps :
    (stepped ((prog [0xE8]).setX 0xFF)).map (fun t => (t.x, nvzc t, t.pc, t.cyc)) = some (0x00, [false, false, false, false], 0x8001, 2) ∧
    accOf ((prog [0xE8]).setX 0xFF) = [r_ 0x8000] := by decide

theorem test_iny :
    (stepped ((prog [0xC8]).setY 0x7F)).map (fun t => (t.y, nvzc t, t.cyc)) = some (0x80, [false, false, false, false], 2) := by decide

theorem test_dex_wraps :
    (stepped (prog [0xCA])).map (fun t => (t.x, nvzc t, t.cyc)) = some (0xFF, [false, false, false, false], 2) := by decide

theorem test_dey :
    (stepped ((prog [0x88]).setY 0x01)).map (fun t => (t.y, nvzc t, t.cyc)) = some (0x00, [false, false, false, false], 2) := by decide

/-! ### Steps: compares (sections 1.1 and 2.8) -/

/-- Section 2.8 for CMP, first half: V is unchanged. -/
theorem test_cmp_rows_first :
  alu ((prog [0xC9, 0x10]).setA 0x10) true false = some (0x10, [false, true, true, true]) ∧
  alu ((prog [0xC9, 0x01]).setA 0x00) true false = some (0x00, [true, true, false, false]) ∧
  alu ((prog [0xC9, 0x01]).setA 0x80) true false = some (0x80, [false, true, false, true]) ∧
  alu ((prog [0xC9, 0x80]).setA 0x01) true false = some (0x01, [true, true, false, false]) ∧
  alu ((prog [0xC9, 0x00]).setA 0xFF) true false = some (0xFF, [true, true, false, true]) ∧
  alu ((prog [0xC9, 0xFF]).setA 0x00) true false = some (0x00, [false, true, false, false]) := by decide

/-- Section 2.8 for CMP, second half. -/
theorem test_cmp_rows_second :
  alu ((prog [0xC9, 0x41]).setA 0x40) true false = some (0x40, [true, true, false, false]) ∧
  alu ((prog [0xC9, 0x80]).setA 0x7F) true false = some (0x7F, [true, true, false, false]) ∧
  alu ((prog [0xC9, 0x7F]).setA 0x80) true false = some (0x80, [false, true, false, true]) ∧
  alu ((prog [0xC9, 0x00]).setA 0x00) true false = some (0x00, [false, true, true, true]) ∧
  alu ((prog [0xC9, 0xFF]).setA 0xFF) true false = some (0xFF, [false, true, true, true]) ∧
  alu ((prog [0xC9, 0x80]).setA 0x00) true false = some (0x00, [true, true, false, false]) := by decide

/-- Section 2.8 for CPX, first half: V is unchanged. -/
theorem test_cpx_rows_first :
  alu ((prog [0xE0, 0x10]).setX 0x10) true false = some (0x00, [false, true, true, true]) ∧
  alu ((prog [0xE0, 0x01]).setX 0x00) true false = some (0x00, [true, true, false, false]) ∧
  alu ((prog [0xE0, 0x01]).setX 0x80) true false = some (0x00, [false, true, false, true]) ∧
  alu ((prog [0xE0, 0x80]).setX 0x01) true false = some (0x00, [true, true, false, false]) ∧
  alu ((prog [0xE0, 0x00]).setX 0xFF) true false = some (0x00, [true, true, false, true]) ∧
  alu ((prog [0xE0, 0xFF]).setX 0x00) true false = some (0x00, [false, true, false, false]) := by decide

/-- Section 2.8 for CPX, second half. -/
theorem test_cpx_rows_second :
  alu ((prog [0xE0, 0x41]).setX 0x40) true false = some (0x00, [true, true, false, false]) ∧
  alu ((prog [0xE0, 0x80]).setX 0x7F) true false = some (0x00, [true, true, false, false]) ∧
  alu ((prog [0xE0, 0x7F]).setX 0x80) true false = some (0x00, [false, true, false, true]) ∧
  alu ((prog [0xE0, 0x00]).setX 0x00) true false = some (0x00, [false, true, true, true]) ∧
  alu ((prog [0xE0, 0xFF]).setX 0xFF) true false = some (0x00, [false, true, true, true]) ∧
  alu ((prog [0xE0, 0x80]).setX 0x00) true false = some (0x00, [true, true, false, false]) := by decide

/-- Section 2.8 for CPY, first half: V is unchanged. -/
theorem test_cpy_rows_first :
  alu ((prog [0xC0, 0x10]).setY 0x10) true false = some (0x00, [false, true, true, true]) ∧
  alu ((prog [0xC0, 0x01]).setY 0x00) true false = some (0x00, [true, true, false, false]) ∧
  alu ((prog [0xC0, 0x01]).setY 0x80) true false = some (0x00, [false, true, false, true]) ∧
  alu ((prog [0xC0, 0x80]).setY 0x01) true false = some (0x00, [true, true, false, false]) ∧
  alu ((prog [0xC0, 0x00]).setY 0xFF) true false = some (0x00, [true, true, false, true]) ∧
  alu ((prog [0xC0, 0xFF]).setY 0x00) true false = some (0x00, [false, true, false, false]) := by decide

/-- Section 2.8 for CPY, second half. -/
theorem test_cpy_rows_second :
  alu ((prog [0xC0, 0x41]).setY 0x40) true false = some (0x00, [true, true, false, false]) ∧
  alu ((prog [0xC0, 0x80]).setY 0x7F) true false = some (0x00, [true, true, false, false]) ∧
  alu ((prog [0xC0, 0x7F]).setY 0x80) true false = some (0x00, [false, true, false, true]) ∧
  alu ((prog [0xC0, 0x00]).setY 0x00) true false = some (0x00, [false, true, true, true]) ∧
  alu ((prog [0xC0, 0xFF]).setY 0xFF) true false = some (0x00, [false, true, true, true]) ∧
  alu ((prog [0xC0, 0x80]).setY 0x00) true false = some (0x00, [true, true, false, false]) := by decide

/-! ### Steps: branches and JMP (sections 1.1, 2.9 and 2.10) -/

/-- One step with the flags given: PC and CYC after. -/
def branched (s : State) (f : Flags) : Option (Addr × CycleCount) := (stepped (s.setFlags f)).map fun t => (t.pc, t.cyc)

theorem test_bpl : branched (prog [0x10, 0x04]) Flags.clear = some (0x8006, 2) ∧
    branched (prog [0x10, 0x04]) { Flags.clear with n := true } = some (0x8002, 2) := by decide

theorem test_bmi : branched (at_ 0x8010 [0x30, 0xFC]) { Flags.clear with n := true } = some (0x800E, 2) := by decide

theorem test_bne : branched (at_ 0x8005 [0xD0, 0xFB]) Flags.clear = some (0x8002, 2) ∧
    branched (at_ 0x8005 [0xD0, 0xFB]) { Flags.clear with z := true } = some (0x8007, 2) := by decide

theorem test_bne_at_top : branched (at_ 0xFFFF [0xD0, 0x10]) Flags.clear = some (0x0011, 2) := by decide

theorem test_beq : branched (prog [0xF0, 0xFE]) { Flags.clear with z := true } = some (0x8000, 2) ∧
    branched (at_ 0xFFFE [0xF0, 0x00]) { Flags.clear with z := true } = some (0x0000, 2) := by decide

theorem test_bvs : branched (prog [0x70, 0x7F]) { Flags.clear with v := true } = some (0x8081, 2) := by decide

theorem test_bcs : branched (at_ 0x8100 [0xB0, 0x80]) { Flags.clear with c := true } = some (0x8082, 2) := by decide

theorem test_bcc_wraps_upward : branched (at_ 0xFFF0 [0x90, 0x20]) Flags.clear = some (0x0012, 2) := by decide

theorem test_bvc_wraps_downward : branched (at_ 0x0005 [0x50, 0x80]) Flags.clear = some (0xFF87, 2) := by decide

/-- SIM scenario 7. -/
theorem test_jmp_abs :
    (stepped (prog [0x4C, 0x05, 0x80])).map (fun t => (t.pc, t.cyc)) = some (0x8005, 3) ∧
    accOf (prog [0x4C, 0x05, 0x80]) = [r_ 0x8000, r_ 0x8001, r_ 0x8002] := by decide

/-- No page-wrap quirk (decision D6). -/
theorem test_jmp_ind_no_page_wrap :
    (stepped (put (prog [0x6C, 0xFF, 0x02]) [(0x02FF, 0x34), (0x0300, 0x12), (0x0200, 0x99)])).map (fun t => (t.pc, t.cyc)) = some (0x1234, 5) ∧
    accOf (put (prog [0x6C, 0xFF, 0x02]) [(0x02FF, 0x34), (0x0300, 0x12), (0x0200, 0x99)]) = [r_ 0x8000, r_ 0x8001, r_ 0x8002, r_ 0x02FF, r_ 0x0300] := by decide

theorem test_jmp_ind_pointer_wraps :
    (stepped (put (prog [0x6C, 0xFF, 0xFF]) [(0xFFFF, 0x78), (0x0000, 0x56)])).map (fun t => (t.pc, t.cyc)) = some (0x5678, 5) ∧
    accOf (put (prog [0x6C, 0xFF, 0xFF]) [(0xFFFF, 0x78), (0x0000, 0x56)]) = [r_ 0x8000, r_ 0x8001, r_ 0x8002, r_ 0xFFFF, r_ 0x0000] := by decide

/-! ### Faults (section 2.11) -/

theorem test_decode_only_faults :
    step (prog [0xEA]) = .fault (.unimplementedOperation .nop .imp 0x8000) ∧
    step (prog []) = .fault (.unimplementedOperation .brk .imp 0x8000) ∧
    step (prog [0x20, 0x34, 0x12]) = .fault (.unimplementedOperation .jsr .abs 0x8000) ∧
    step (prog [0xE9, 0x01]) = .fault (.unimplementedOperation .sbc .imm 0x8000) := ⟨rfl, rfl, rfl, rfl⟩

theorem test_illegal_faults :
    step (prog [0x02]) = .fault (.unknownOpcode 0x02 0x8000) ∧ step (prog [0x80]) = .fault (.unknownOpcode 0x80 0x8000) ∧
    step (prog [0x89]) = .fault (.unknownOpcode 0x89 0x8000) ∧ step (prog [0xFF]) = .fault (.unknownOpcode 0xFF 0x8000) :=
  ⟨rfl, rfl, rfl, rfl⟩

/-- IR only; the operand bytes of JSR are not read. -/
theorem test_fault_changes_ir_only :
    (prog [0x20, 0x34, 0x12]).afterStep = (prog [0x20, 0x34, 0x12]).setIr 0x20 ∧
    accOf (prog [0x20, 0x34, 0x12]) = [r_ 0x8000] ∧ (prog [0x89]).afterStep = (prog [0x89]).setIr 0x89 := ⟨rfl, rfl, rfl⟩

/-! ### Reset, the host and the packed view (section 2.12; 20_memory.md R71; 10_state.md R38) -/

theorem test_reset_arguments :
    (HostMove.reset 0x12 0xFF 0x80).apply { prog [0x00] with ir := 0x85, cyc := 17, flags := ⟨true, true, true, true, true, true, true⟩ } =
      (.done, { prog [0x00] with a := 0x12, x := 0xFF, y := 0x80 }) := rfl

theorem test_loadSequential :
    ((HostMove.loadSequential [0xA9, 0x12]).apply State.reset).1 = .done ∧
    ((HostMove.loadSequential [0xA9, 0x12]).apply State.reset).2.mem = [(0x8000, 0xA9), (0x8001, 0x12)] ∧
    ((HostMove.loadSequential [0xA9, 0x12]).apply State.reset).2.cursor = 0x8002 := ⟨rfl, rfl, rfl⟩

/-- N V 1 B D I Z C from bit 7 down: N and C set give 1010 0001. -/
theorem test_packedP : ({ State.reset with flags := { Flags.clear with n := true, c := true } } : State).packedP = 0xA1 := by
  decide

/-- Writing what an unlisted address reads as removes the entry. -/
theorem test_memory_canonical :
    ((State.reset.write 0x0200 0x05).write 0x0200 Config.unlistedByte).mem = [] ∧
    ((State.reset.write 0x0200 0x05).write 0x0100 0x06).mem = [(0x0100, 0x06), (0x0200, 0x05)] := ⟨rfl, rfl⟩

/-! ### Witnesses: states and operands that meet the hypotheses of the statements -/

theorem witness_DecodedBytesAreTheEncoding : decode [0xAD, 0x34, 0x12, 0xFF] = .ok (.ldaAbs 0x1234, [0xFF]) := rfl

theorem witness_EncoderChecksTheOperandCount :
    (⟨0xA9, ⟨.lda, .imm, 2, 2, .exec⟩⟩ : TableRow) ∈ opcodeTable ∧ [(0x12 : Byte)].length = 2 - 1 ∧
      [(0x12 : Byte), 0x34].length ≠ 2 - 1 := by decide

/-- The last displacement on each side and the first distance beyond it; a target across address 0. -/
theorem witness_BranchOffsetReachesItsTarget :
    branchOffset 0x8000 0x8081 = some 0x7F ∧ branchOffset 0x8000 0x8082 = none ∧ branchOffset 0x8000 0x7F82 = some 0x80 ∧
    branchOffset 0x8000 0x7F81 = none ∧ branchOffset 0xFFF0 0x0012 = some 0x20 := by decide

theorem witness_StepRunsTheDecodedInstruction :
    (fun s : State => decode [s.read s.pc, s.read (s.pc + 1), s.read (s.pc + 2)]) (at_ 0xFFFF [0xA9, 0x5C]) =
      .ok (.ldaImm 0x5C, [0x00]) := rfl

theorem witness_IllegalByteFaultsAndChangesOnlyIr :
    ((prog [0xFF]).read (prog [0xFF]).pc).toNat ∈ illegalBytes := by decide

theorem witness_DecodeOnlyByteFaultsAndChangesOnlyIr :
    decodeByte ((prog [0x20]).read (prog [0x20]).pc) = some ⟨.jsr, .abs, 3, 6, .decodeOnly⟩ := rfl

theorem witness_FaultRepeatsUntilStorageChanges :
    step (prog [0x02]) = .fault (.unknownOpcode 0x02 0x8000) ∧
      step (prog [0xEA]) = .fault (.unimplementedOperation .nop .imp 0x8000) := ⟨rfl, rfl⟩

theorem witness_StepCompletesExactlyOnExecutableOpcodes :
    Completes (prog [0xE8]) ∧ decodeByte ((prog [0xE8]).read (prog [0xE8]).pc) = some ⟨.inx, .imp, 1, 2, .exec⟩ :=
  ⟨⟨_, rfl⟩, rfl⟩

/-- An instruction that is neither branch nor JMP, here at the top of the address space. -/
theorem witness_PcAdvancesAsTheSequencerSays_other :
    (at_ 0xFFFF [0xA9, 0x5C]).fetchDecode = some (.ldaImm 0x5C) ∧ (∃ t, step (at_ 0xFFFF [0xA9, 0x5C]) = .next t) ∧
    branchPredicate .lda = none ∧ Op.lda ≠ .jmp := ⟨rfl, ⟨_, rfl⟩, rfl, by decide⟩

/-- A branch, taken and not taken. -/
theorem witness_PcAdvancesAsTheSequencerSays_branch :
    (prog [0xD0, 0x80]).fetchDecode = some (.bne 0x80) ∧ (∃ t, step (prog [0xD0, 0x80]) = .next t) ∧
    (branchPredicate .bne).map (fun p => p (prog [0xD0, 0x80]).flags) = some true ∧
    (branchPredicate .beq).map (fun p => p (prog [0xF0, 0x80]).flags) = some false := ⟨rfl, ⟨_, rfl⟩, rfl, rfl⟩

theorem witness_PcAdvancesAsTheSequencerSays_jmp :
    (prog [0x6C, 0xFF, 0xFF]).fetchDecode = some (.jmpInd 0xFFFF) ∧ (∃ t, step (prog [0x6C, 0xFF, 0xFF]) = .next t) :=
  ⟨rfl, ⟨_, rfl⟩⟩

/-- CYC at its largest value. -/
theorem witness_CyclesGrowByTheBaseCost :
    ({ prog [0xE8] with cyc := 0xFFFFFFFFFFFFFFFF } : State).fetchDecode = some .inx ∧
    (stepped { prog [0xE8] with cyc := 0xFFFFFFFFFFFFFFFF }).map State.cyc = some 1 := ⟨rfl, rfl⟩

/-- ADC writes C (the last of the seven) and leaves B, D and I. -/
theorem witness_FlagsChangeOnlyWhereTheMatrixSays :
    (∃ t, exec (.adcImm 0x01) State.reset = .next t) ∧ (flagsWritten .adc)[6]? = some true ∧
    (flagsWritten .adc)[2]? = some false ∧
    (∃ t, exec (.adcImm 0x01) { State.reset with flags := ⟨true, true, true, true, true, true, true⟩ } = .next t) :=
  ⟨⟨_, rfl⟩, rfl, rfl, ⟨_, rfl⟩⟩

/-- One instruction for each clause; ASL on storage meets the first, its accumulator form does not. -/
theorem witness_RegistersChangeOnlyAsTheInventorySays :
    (∃ t, exec (.aslZp 0x10) State.reset = .next t) ∧ (Instr.aslZp 0x10).entry.op ∉ [Op.lda, Op.adc, Op.and] ∧
    (Instr.aslZp 0x10).entry ≠ ⟨.asl, .acc⟩ ∧ Instr.aslAcc.entry = ⟨.asl, .acc⟩ ∧
    (Instr.aslZp 0x10).entry.op ∉ [Op.ldx, Op.inx, Op.dex] ∧ (Instr.aslZp 0x10).entry.op ∉ [Op.ldy, Op.iny, Op.dey] :=
  ⟨⟨_, rfl⟩, by decide, by decide, rfl, by decide, by decide⟩

/-- A store at 0x0010 leaves the byte beside it alone; a load leaves every byte alone. -/
theorem witness_MemoryChangesOnlyAtTheStoreAddress :
    (∃ t, exec (.staZp 0x10) State.reset = .next t) ∧ storeAddress (.staZp 0x10) State.reset ≠ some 0x0011 ∧
    (∃ t, exec (.ldaZp 0x10) State.reset = .next t) ∧ storeAddress (.ldaZp 0x10) State.reset ≠ some 0x0010 :=
  ⟨⟨_, rfl⟩, by decide, ⟨_, rfl⟩, by decide⟩

theorem witness_EveryMoveKeepsTheCoreInvariant :
    CoreInv (prog [0x85, 0x10]) ∧ (∃ t, step (prog [0x85, 0x10]) = .next t) ∧ CoreInv (prog [0x02]) :=
  ⟨⟨⟨rfl, rfl, rfl⟩, rfl⟩, ⟨_, rfl⟩, ⟨⟨rfl, rfl, rfl⟩, rfl⟩⟩

theorem witness_UnreadRegistersNeverInfluenceAStep :
    (∃ t, step (prog [0xE8]) = .next t) ∧ step (prog [0x02]) = .fault (.unknownOpcode 0x02 0x8000) := ⟨⟨_, rfl⟩, rfl⟩

/-- A fault, and a completed step with an effective address: a read-modify-write in ABX, a read in IZY (pointer included), a
store; IMM has an effective address and no further read, ACC has none. -/
theorem witness_AccessCountsAreThoseOfTheTable :
    step (prog [0x02]) = .fault (.unknownOpcode 0x02 0x8000) ∧
    (decodeByte ((prog [0x1E, 0x00, 0x02]).read (prog [0x1E, 0x00, 0x02]).pc) = some ⟨.asl, .abx, 3, 7, .exec⟩ ∧
      resolve .abx (prog [0x1E, 0x00, 0x02]) = .addr 0x0200) ∧
    (decodeByte ((prog [0xD1, 0xFF]).read (prog [0xD1, 0xFF]).pc) = some ⟨.cmp, .izy, 2, 5, .exec⟩ ∧
      resolve .izy (prog [0xD1, 0xFF]) = .addr 0x0000) ∧
    (decodeByte ((prog [0x85, 0x10]).read (prog [0x85, 0x10]).pc) = some ⟨.sta, .zp, 2, 3, .exec⟩ ∧
      resolve .zp (prog [0x85, 0x10]) = .addr 0x0010) ∧
    (decodeByte ((prog [0xA9, 0x12]).read (prog [0xA9, 0x12]).pc) = some ⟨.lda, .imm, 2, 2, .exec⟩ ∧
      resolve .imm (prog [0xA9, 0x12]) = .addr 0x8001) ∧
    (decodeByte ((prog [0x0A]).read (prog [0x0A]).pc) = some ⟨.asl, .acc, 1, 2, .exec⟩ ∧
      resolve .acc (prog [0x0A]) = .regA) :=
  ⟨rfl, ⟨rfl, rfl⟩, ⟨rfl, rfl⟩, ⟨rfl, rfl⟩, ⟨rfl, rfl⟩, ⟨rfl, rfl⟩⟩

/-- R146 by hand for the read-type operations that section 2 gives no access list for: the last access is the read at 0x0010. -/
theorem test_data_reads_in_zero_page :
    [0x65, 0x25, 0x24, 0xC5, 0xE4, 0xC4, 0xA6, 0xA4].map (fun b : Byte => accOf (prog [b, 0x10])) =
      List.replicate 8 [r_ 0x8000, r_ 0x8001, r_ 0x0010] := by decide

/-- The pointers of IND and IZY at the end of their ranges, and the modes that read none. -/
theorem witness_OtherModesResolveAsTheirRulesSay :
    pointerAccesses .ind (prog [0x6C, 0xFF, 0xFF]) = [.read 0xFFFF, .read 0x0000] ∧
    pointerAccesses .izy (prog [0xB1, 0xFF]) = [.read 0x00FF, .read 0x0000] ∧
    Mode.abs ∉ [Mode.ind, .izx, .izy] ∧ Mode.acc ∈ [Mode.imp, .acc] ∧ Mode.rel ∈ [Mode.imm, .zp, .zpy, .izy, .rel] ∧
    Mode.ind ∈ [Mode.abx, .aby, .ind] := by decide

/-- STA $8003 at 0x8000 stores the byte the next step fetches. -/
theorem witness_FetchSeesTheStoreOfTheStepBefore :
    (stepped ((prog [0x8D, 0x03, 0x80]).setA 0xE8)).map State.pc = some 0x8003 ∧
    Access.write 0x8003 0xE8 ∈ (sequencer ((prog [0x8D, 0x03, 0x80]).setA 0xE8)).accesses := by decide

/-- The indexed sums wrap: operand FF and X = Y = 01 give slot 00. -/
theorem witness_ZeroPageAddressesStayInPageZero :
    resolve .zpx (((prog [0xB5, 0xFF]).setX 0x01).setY 0x01) = .addr 0x0000 ∧
    resolve .zpy (((prog [0xB6, 0xFF]).setX 0x01).setY 0x01) = .addr 0x0000 ∧
    pointerAccesses .izx ((prog [0xA1, 0xFE]).setX 0x01) = [.read 0x00FF, .read 0x0000] ∧
    pointerAccesses .izy (prog [0xB1, 0xFF]) = [.read 0x00FF, .read 0x0000] := by decide

theorem witness_AbsoluteAddressIsLittleEndian :
    (prog [0x4C, 0x05, 0x80]).read (prog [0x4C, 0x05, 0x80]).pc = 0x4C := rfl

theorem witness_StaStoresAAndChangesNothingElse : (Instr.staZp 0x10).descriptor.op = .sta := rfl

theorem witness_AslShiftsLeftAndSetsNzc :
    (Instr.aslZp 0x10).descriptor.op = .asl ∧ resolve (Instr.aslZp 0x10).descriptor.mode (prog [0x06, 0x10]) = .addr 0x0010 :=
  ⟨rfl, rfl⟩

/-- Equal operands set Z; an operand one larger clears C. -/
theorem witness_CompareFlagsFollowTheUnsignedOrder :
    (Flags.clear.compare 0xFF 0xFF).z = true ∧ (Flags.clear.compare 0x00 0x01).c = false := by decide

theorem witness_JmpGoesToTheResolvedAddress : (Instr.jmpInd 0x0310).descriptor.op = .jmp := rfl

/-- A load that takes the cursor to 0xFFFF, its last place, and one that would take it past. -/
theorem witness_LoadSequentialAppendsAtTheCursor :
    (State.reset.setCursor 0xFFFE).cursor.toNat + [(0xEA : Byte)].length ≤ 0xFFFF ∧
    0xFFFF < (State.reset.setCursor 0xFFFF).cursor.toNat + [(0xEA : Byte)].length ∧
    ((HostMove.loadSequential [0xEA]).apply (State.reset.setCursor 0xFFFF)).1 = .refused (.loadPastTop 0xFFFF 1) := by decide

theorem witness_StatusPortTellsTheOutcomeOfTheStep :
    (HostMove.step.apply (prog [0xE8])).1 = .stepped .ok ∧
    (HostMove.step.apply (prog [0x02])).1 = .stepped (.unknownOpcode 0x02 0x8000) ∧
    (HostMove.step.apply (prog [0xEA])).1 = .stepped (.unimplemented .nop .imp 0x8000) := ⟨rfl, rfl, rfl⟩

/-- Both ends of two neighbouring rows. -/
theorem witness_RegionsTileTheAddressSpace :
    Config.regionOf 0x00FF = some .zeroPage ∧ Config.regionOf 0x0100 = some .stack ∧
    Config.regionOf 0xFFF9 = some .programRom ∧ Config.regionOf 0xFFFA = some .vectors := by decide

end Sys2Proof.Tests
end

section
/-! PROOF. The flag write matrix (10_state.md rule R35). The new flags of a completed instruction are a function of the old
ones, fixed by the instruction and the rest of the state; that function writes exactly the flags its operation's row marks. -/

namespace Sys2Proof.Machine

/-! ### Taking the marked entries of one list and the others of another -/

/-- The list that takes its entry from `new` where `row` marks the place and from `old` elsewhere. -/
def mixMarked (row new old : List Bool) : List Bool :=
  List.zipWith (fun marked p => if marked then p.1 else p.2) row (new.zip old)

theorem mixMarked_of_unmarked {row new old : List Bool} {k : Nat} (hlen : new.length = old.length)
    (h : row[k]? = some false) : (mixMarked row new old)[k]? = old[k]? := by
  have hmix : (mixMarked row new old)[k]? = ((new.zip old)[k]?).map Prod.snd := by
    rw [mixMarked, List.getElem?_zipWith, h]
    cases (new.zip old)[k]? <;> rfl
  rw [hmix, ← List.getElem?_map, List.map_snd_zip hlen.ge]

theorem mixMarked_of_marked {row new old : List Bool} {k : Nat} (hlen : new.length = old.length)
    (h : row[k]? = some true) : (mixMarked row new old)[k]? = new[k]? := by
  have hmix : (mixMarked row new old)[k]? = ((new.zip old)[k]?).map Prod.fst := by
    rw [mixMarked, List.getElem?_zipWith, h]
    cases (new.zip old)[k]? <;> rfl
  rw [hmix, ← List.getElem?_map, List.map_fst_zip hlen.le]

/-! ### Writing exactly the marked flags -/

theorem Flags.asList_length_eq (f f' : Flags) : f.asList.length = f'.asList.length := rfl

/-- `g` writes the flags `row` marks and no other: whatever flags it is given, it leaves the marked ones as it leaves them
from clear flags, and the others as they are. -/
def WritesExactly (row : List Bool) (g : Flags → Flags) : Prop :=
  ∀ f, (g f).asList = mixMarked row (g Flags.clear).asList f.asList

theorem WritesExactly.kept {row : List Bool} {g : Flags → Flags} (hg : WritesExactly row g) {k : Nat}
    (unmarked : row[k]? = some false) (f : Flags) : (g f).asList[k]? = f.asList[k]? := by
  rw [hg f]
  exact mixMarked_of_unmarked (Flags.asList_length_eq _ f) unmarked

theorem WritesExactly.written {row : List Bool} {g : Flags → Flags} (hg : WritesExactly row g) {k : Nat}
    (marked : row[k]? = some true) (f f' : Flags) : (g f).asList[k]? = (g f').asList[k]? := by
  rw [hg f, hg f']
  exact (mixMarked_of_marked (Flags.asList_length_eq _ f) marked).trans
    (mixMarked_of_marked (Flags.asList_length_eq _ f') marked).symm

/-! What each flag generator writes (files 42 to 44), against the rows of the matrix. -/

theorem writesExactly_adc (a0 m : Byte) : WritesExactly (flagsWritten .adc) fun f => f.adc a0 m := fun _ => rfl
theorem writesExactly_logic (r : Byte) : WritesExactly (flagsWritten .and) fun f => f.logic r := fun _ => rfl
theorem writesExactly_bitTest (a0 m : Byte) : WritesExactly (flagsWritten .bit) fun f => f.bitTest a0 m := fun _ => rfl
theorem writesExactly_asl (v : Byte) : WritesExactly (flagsWritten .asl) fun f => f.asl v := fun _ => rfl
theorem writesExactly_compare (r m : Byte) : WritesExactly (flagsWritten .cmp) fun f => f.compare r m := fun _ => rfl

/-- A row that marks nothing. -/
theorem writesExactly_id : WritesExactly (List.replicate 7 false) id := fun _ => rfl

/-! ### The flags each operation leaves -/

theorem opAdc_flags (m : Byte) (s : State) : (opAdc m s).flags = s.flags.adc s.a m := rfl
theorem opAnd_flags (m : Byte) (s : State) : (opAnd m s).flags = s.flags.logic (s.a &&& m) := rfl
theorem opBit_flags (m : Byte) (s : State) : (opBit m s).flags = s.flags.bitTest s.a m := rfl
theorem opCmp_flags (m : Byte) (s : State) : (opCmp m s).flags = s.flags.compare s.a m := rfl
theorem opCpx_flags (m : Byte) (s : State) : (opCpx m s).flags = s.flags.compare s.x m := rfl
theorem opCpy_flags (m : Byte) (s : State) : (opCpy m s).flags = s.flags.compare s.y m := rfl
theorem opAslA_flags (s : State) : (opAslA s).flags = s.flags.asl s.a := rfl
theorem opAslMem_flags (ea : Addr) (s : State) : (opAslMem ea s).flags = s.flags.asl (s.read ea) := rfl

/-- A branch writes no flag, whatever it tests. -/
theorem opBranch_flags (taken : Bool) (rel8 : Byte) (s : State) : (opBranch taken rel8 s).flags = s.flags := by
  rw [opBranch_eq]

/-- Completing an instruction writes no flag. -/
theorem flags_of_complete {i : Instr} {u t : State} (h : complete i u = .next t) : t.flags = u.flags := by
  rw [← Host.Outcome.next.inj h]
  exact afterExecute_flags i.descriptor u

/-! ### One function of the old flags for both runs -/

/-- Completing an instruction in `u` and in `u'`, whose flags are one `g` of the flags the two runs started with. -/
theorem flags_of_both_complete {i : Instr} {f f' : Flags} {u u' t t' : State} {row : List Bool} {g : Flags → Flags}
    (h : complete i u = .next t) (h' : complete i u' = .next t') (hg : WritesExactly row g)
    (hu : u.flags = g f) (hu' : u'.flags = g f') :
    ∃ g, WritesExactly row g ∧ t.flags = g f ∧ t'.flags = g f' :=
  ⟨g, hg, (flags_of_complete h).trans hu, (flags_of_complete h').trans hu'⟩

/-- If an instruction completes in two states that differ in the flags alone, both runs apply one `g` to the flags, and `g`
writes exactly what the instruction's row marks. -/
theorem exec_flags {i : Instr} {s t t' : State} {old : Flags} (h : exec i s = .next t)
    (h' : exec i { s with flags := old } = .next t') :
    ∃ g, WritesExactly (flagsWritten i.entry.op) g ∧ t.flags = g s.flags ∧ t'.flags = g old := by
  cases i
  case adcImm | adcZp | adcZpx | adcAbs | adcAbx | adcAby | adcIzx | adcIzy =>
    exact flags_of_both_complete h h' (writesExactly_adc _ _) (opAdc_flags _ _) (opAdc_flags _ _)
  case andImm | andZp | andZpx | andAbs | andAbx | andAby | andIzx | andIzy =>
    exact flags_of_both_complete h h' (writesExactly_logic _) (opAnd_flags _ _) (opAnd_flags _ _)
  case bitZp | bitAbs =>
    exact flags_of_both_complete h h' (writesExactly_bitTest _ _) (opBit_flags _ _) (opBit_flags _ _)
  case aslAcc =>
    exact flags_of_both_complete h h' (writesExactly_asl _) (opAslA_flags _) (opAslA_flags _)
  case aslZp | aslZpx | aslAbs | aslAbx =>
    exact flags_of_both_complete h h' (writesExactly_asl _) (opAslMem_flags _ _) (opAslMem_flags _ _)
  case cmpImm | cmpZp | cmpZpx | cmpAbs | cmpAbx | cmpAby | cmpIzx | cmpIzy =>
    exact flags_of_both_complete h h' (writesExactly_compare _ _) (opCmp_flags _ _) (opCmp_flags _ _)
  case cpxImm | cpxZp | cpxAbs =>
    exact flags_of_both_complete h h' (writesExactly_compare _ _) (opCpx_flags _ _) (opCpx_flags _ _)
  case cpyImm | cpyZp | cpyAbs =>
    exact flags_of_both_complete h h' (writesExactly_compare _ _) (opCpy_flags _ _) (opCpy_flags _ _)
  case bpl | bmi | bvc | bvs | bcc | bcs | bne | beq =>
    exact flags_of_both_complete h h' writesExactly_id (opBranch_flags _ _ _) (opBranch_flags _ _ _)
  case ldaImm | ldaZp | ldaZpx | ldaAbs | ldaAbx | ldaAby | ldaIzx | ldaIzy | ldxImm | ldxZp | ldxZpy | ldxAbs | ldxAby
      | ldyImm | ldyZp | ldyZpx | ldyAbs | ldyAbx | staZp | staZpx | staAbs | staAbx | staAby | staIzx | staIzy
      | stxZp | stxZpy | stxAbs | styZp | styZpx | styAbs | incZp | incZpx | incAbs | incAbx
      | decZp | decZpx | decAbs | decAbx | inx | iny | dex | dey | jmpAbs | jmpInd =>
    exact flags_of_both_complete h h' writesExactly_id rfl rfl
  all_goals exact (fault_ne_next h).elim

/-- Settles O21: compare the run with itself for an unmarked flag, with the run from the other flags for a marked one. -/
theorem flagsChangeOnlyWhereTheMatrixSays : Obligations.FlagsChangeOnlyWhereTheMatrixSays := by
  intro i s t h k _
  constructor
  · intro unmarked
    obtain ⟨g, hg, ht, -⟩ := exec_flags (old := s.flags) h h
    rw [ht]
    exact hg.kept unmarked s.flags
  · intro marked old t' h'
    obtain ⟨g, hg, ht, ht'⟩ := exec_flags h h'
    rw [ht, ht']
    exact hg.written marked old s.flags

end Sys2Proof.Machine
end

section
/-! PROOF. The address map tiles the storage (20_memory.md rule R52). Rows that follow one another from one address to another,
each beginning where the row before it ends, hold each address of the span in exactly one row; the address map is such a list. -/

namespace Sys2Proof.Config

/-! ### Rows that tile a span of addresses -/

/-- Address `n` lies in the row. -/
def RegionRow.Holds (r : RegionRow) (n : Nat) : Prop := r.first ≤ n ∧ n ≤ r.last

/-- The rows tile the addresses from `lo` up to and without `hi`: each is non-empty and begins where the one before it ends. -/
def Tiles : Nat → List RegionRow → Nat → Prop
  | lo, [], hi => lo = hi
  | lo, r :: rs, hi => r.first = lo ∧ lo ≤ r.last ∧ Tiles (r.last + 1) rs hi

theorem Tiles.le_first {rows : List RegionRow} {lo hi : Nat} (h : Tiles lo rows hi) {r : RegionRow} (hr : r ∈ rows) :
    lo ≤ r.first := by
  induction rows generalizing lo with
  | nil => cases hr
  | cons r₀ rs ih =>
    obtain ⟨hfirst, hne, hrest⟩ := h
    cases hr with
    | head => exact hfirst.ge
    | tail _ hmem =>
      have := ih hrest hmem
      omega

/-- The first row holds the address and every later row begins above it, or the address lies in the span of the later rows. -/
theorem Tiles.existsUnique_holds {rows : List RegionRow} {lo hi n : Nat} (h : Tiles lo rows hi) (hlo : lo ≤ n) (hhi : n < hi) :
    ∃ r ∈ rows, r.Holds n ∧ ∀ r' ∈ rows, r'.Holds n → r' = r := by
  induction rows generalizing lo with
  | nil =>
    have : lo = hi := h
    omega
  | cons r rs ih =>
    obtain ⟨hfirst, -, hrest⟩ := h
    by_cases hn : n ≤ r.last
    · refine ⟨r, List.mem_cons_self, ⟨hfirst.trans_le hlo, hn⟩, List.forall_mem_cons.mpr ⟨fun _ => rfl, ?_⟩⟩
      intro r' hmem ⟨hbegins, _⟩
      have := hrest.le_first hmem
      omega
    · obtain ⟨r₁, hmem, hholds, huniq⟩ := ih hrest (by omega)
      exact ⟨r₁, List.mem_cons_of_mem r hmem, hholds, List.forall_mem_cons.mpr ⟨fun hr => absurd hr.2 hn, huniq⟩⟩

/-! ### The address map -/

theorem addressMap_tiles : Tiles 0 addressMap 0x10000 := by
  simp [Tiles, addressMap]

/-- The search for an address's row finds the row that alone holds it. -/
theorem regionOf_eq_of_unique {a : Addr} {r : RegionRow} (hmem : r ∈ addressMap) (hholds : r.Holds a.toNat)
    (huniq : ∀ r' ∈ addressMap, r'.Holds a.toNat → r' = r) : regionOf a = some r.region := by
  unfold regionOf
  cases hfind : addressMap.find? fun r => r.first ≤ a.toNat && a.toNat ≤ r.last with
  | none => exact absurd hholds (by simpa [RegionRow.Holds] using List.find?_eq_none.mp hfind r hmem)
  | some r' =>
    have hholds' : r'.Holds a.toNat := by simpa [RegionRow.Holds] using List.find?_some hfind
    rw [huniq r' (List.mem_of_find?_eq_some hfind) hholds', Option.map_some]

/-- Settles O57: the table is read off, and its rows tile the addresses below 0x10000. -/
theorem regionsTileTheAddressSpace : Obligations.RegionsTileTheAddressSpace := by
  refine ⟨rfl, fun p => ?_⟩
  obtain ⟨r, hmem, hholds, huniq⟩ := addressMap_tiles.existsUnique_holds (Nat.zero_le p.toNat) p.isLt
  exact ⟨r, hmem, hholds, regionOf_eq_of_unique hmem hholds huniq, huniq⟩

end Sys2Proof.Config
end

section
/-! PROOF. Effective addresses in plain arithmetic (40_step_and_addressing.md rules R134, R136, R140, R143) and what a step with JMP
absolute reads. -/

namespace Sys2Proof.Machine

/-! ### Zero-page addresses -/

@[simp] theorem zext16_toNat (v : Byte) : (zext16 v).toNat = v.toNat :=
  BitVec.toNat_setWidth_of_le (by decide)

/-- The zero-page address of a byte lies in page zero, however the byte was computed (R129). -/
theorem zext16_toNat_le (v : Byte) : (zext16 v).toNat ≤ 0x00FF := by
  rw [zext16_toNat]
  exact Nat.le_of_lt_succ v.isLt

/-- The next slot of page zero wraps (R140, R141). -/
theorem zext16_succ_toNat (z : Byte) : (zext16 (z + 1)).toNat = ((zext16 z).toNat + 1) % 256 := by
  rw [zext16_toNat, zext16_toNat, BitVec.toNat_add]
  rfl

theorem eaZpx_toNat (zp8 : Byte) (s : State) : (eaZpx zp8 s).toNat = (zp8.toNat + s.x.toNat) % 256 := by
  rw [eaZpx, zext16_toNat, BitVec.toNat_add]

/-- Settles O30: each of the five modes takes zero-page addresses of bytes. -/
theorem zeroPageAddressesStayInPageZero : Obligations.ZeroPageAddressesStayInPageZero := by
  intro s
  constructor
  · intro m hm
    fin_cases hm <;> exact ⟨_, rfl, zext16_toNat_le _⟩
  · intro m hm
    fin_cases hm <;> exact ⟨_, _, rfl, zext16_toNat_le _, zext16_toNat_le _⟩

/-- Settles O31: the operand byte stands at PC + 1, and the 8-bit sum wraps. -/
theorem zeroPageIndexingByXWraps : Obligations.ZeroPageIndexingByXWraps :=
  ⟨rfl, fun s => ⟨rfl, _, rfl, eaZpx_toNat (s.operandByte 1) s⟩⟩

/-- Settles O33: the pointer stands at the zero-page indexed address, and its value is that of a little-endian pair. -/
theorem indexedIndirectAddsXToThePointerLocation : Obligations.IndexedIndirectAddsXToThePointerLocation :=
  ⟨rfl, fun s => ⟨rfl, _, _, _, rfl, rfl, eaZpx_toNat (s.operandByte 1) s, zext16_succ_toNat _, word16_toNat _ _⟩⟩

/-! ### Absolute addresses -/

theorem State.operandByte_zero (s : State) : s.operandByte 0 = s.read s.pc :=
  congrArg s.read (BitVec.add_zero s.pc)

/-- The sequencer's report when the byte at PC stands for an executable operation that accepts its resolved operand. -/
theorem sequencer_of_execute {s u : State} {d : Descriptor} (hd : decodeByte (s.operandByte 0) = some d) (hc : d.cls = .exec)
    (hu : execute d.op (resolve d.mode s.fetchIr) s.fetchIr = some u) :
    sequencer s = ⟨none, afterExecute d u, .read s.pc :: (operandAccesses d.mode s.fetchIr ++
      pointerAccesses d.mode s.fetchIr ++ dataAccesses d s.fetchIr u)⟩ := by
  rw [State.fetchIr] at hu
  simp only [sequencer, hd, if_pos hc, hu, State.fetchIr]

/-- JMP absolute in the sequencer: PC is set to the absolute operand, and no access follows the operand bytes (R136). -/
theorem sequencer_of_jmpAbs {s : State} (h : s.read s.pc = 0x4C) :
    sequencer s = ⟨none, afterExecute ⟨.jmp, .abs, 3, 3, .exec⟩ (s.fetchIr.setPc (absOperand s)),
      [.read s.pc, .read (s.pc + 1), .read (s.pc + 2)]⟩ := by
  have hd : decodeByte (s.operandByte 0) = some ⟨.jmp, .abs, 3, 3, .exec⟩ := by
    rw [State.operandByte_zero, h]
    rfl
  exact sequencer_of_execute hd rfl rfl

/-- Settles O32: the address is a little-endian pair, and the sequencer's report for JMP absolute is known. -/
theorem absoluteAddressIsLittleEndian : Obligations.AbsoluteAddressIsLittleEndian := by
  refine ⟨rfl, fun s => ⟨rfl, _, rfl, word16_toNat _ _⟩, fun s h => ?_⟩
  rw [sequencer_of_jmpAbs h]
  exact ⟨rfl, rfl⟩

end Sys2Proof.Machine
end

section
/-! PROOF. PC and CYC after a completed step (40_step_and_addressing.md rules R125, R126). CYC follows from what `Effect` leaves
alone; PC needs to know which operations set it, which `PcRule` says. -/

namespace Sys2Proof.Machine

/-! ### The cycle counter -/

/-- No operation writes CYC. -/
theorem Effect.cyc_eq {s u : State} (h : Effect s u) : u.cyc = s.cyc := by
  cases h <;> rfl

theorem exec_cyc {i : Instr} {s t : State} (h : exec i s = .next t) : t.cyc = s.cyc + BitVec.ofNat 64 i.cycles := by
  obtain ⟨-, u, hu, rfl⟩ := exec_next h
  rw [afterExecute_cyc, hu.cyc_eq]
  rfl

/-- A step that completes ran the meaning of the instruction decoded at PC. -/
theorem exec_of_step {s t : State} {i : Instr} (hi : s.fetchDecode = some i) (h : step s = .next t) :
    exec i s.fetchIr = .next t := by
  obtain ⟨j, hj, hexec⟩ := step_next h
  cases hi.symm.trans hj
  exact hexec

/-- Settles O19: the meaning decoded at PC adds its base cycles, and the sum is that of 64-bit words. -/
theorem cyclesGrowByTheBaseCost : Obligations.CyclesGrowByTheBaseCost := by
  intro s t i hi h
  rw [exec_cyc (exec_of_step hi h), State.fetchIr_cyc, BitVec.toNat_add, BitVec.toNat_ofNat, Nat.add_mod_mod]

/-! ### The program counter -/

/-- Where the PC of a completed instruction comes from: the length on top of the old PC; for a branch its displacement and the
length; for JMP the resolved address of its 16-bit operand. -/
inductive PcRule (i : Instr) (s t : State) : Prop
  | advance (notBranch : branchPredicate i.entry.op = none) (notJmp : i.entry.op ≠ .jmp)
      (hpc : t.pc = s.pc + BitVec.ofNat 16 i.length)
  | branch (taken : Flags → Bool) (rel8 : Byte) (htaken : branchPredicate i.entry.op = some taken)
      (hoperand : i.operands = [rel8]) (hpc : t.pc = if taken s.flags then s.pc + sext16 rel8 + 2 else s.pc + 2)
  | jump (addr16 : Addr) (hjmp : i.entry.op = .jmp) (hoperand : i.operands = [lowByte addr16, highByte addr16])
      (hpc : absOperand s = addr16 → resolve i.entry.mode s = .addr t.pc)

theorem pc_of_complete {i : Instr} {u t : State} (h : complete i u = .next t) :
    t.pc = if i.entry.op = .jmp then u.pc else u.pc + BitVec.ofNat 16 i.length := by
  rw [← Host.Outcome.next.inj h]
  exact afterExecute_pc i.descriptor u

/-- Completing an operation that is neither a branch nor JMP and has left PC alone. -/
theorem PcRule.of_complete {i : Instr} {s u t : State} (h : complete i u = .next t)
    (notBranch : branchPredicate i.entry.op = none) (notJmp : i.entry.op ≠ .jmp) (hu : u.pc = s.pc) : PcRule i s t :=
  .advance notBranch notJmp (by rw [pc_of_complete h, if_neg notJmp, hu])

theorem ne_jmp_of_branch {op : Op} {taken : Flags → Bool} (htaken : branchPredicate op = some taken) : op ≠ .jmp := by
  rintro rfl
  cases htaken

/-- Completing a branch, which is two bytes long (R230). -/
theorem PcRule.of_branch {i : Instr} {s t : State} {taken : Flags → Bool} {rel8 : Byte}
    (htaken : branchPredicate i.entry.op = some taken) (h : complete i (opBranch (taken s.flags) rel8 s) = .next t)
    (hlength : i.length = 2) (hoperand : i.operands = [rel8]) : PcRule i s t := by
  refine .branch taken rel8 htaken hoperand ?_
  rw [pc_of_complete h, if_neg (ne_jmp_of_branch htaken), opBranch_pc, hlength]
  split <;> rfl

/-- Every completed instruction sets PC by one of the three rules. -/
theorem exec_pcRule {i : Instr} {s t : State} (h : exec i s = .next t) : PcRule i s t := by
  cases i
  case ldaImm | ldaZp | ldaZpx | ldaAbs | ldaAbx | ldaAby | ldaIzx | ldaIzy | ldxImm | ldxZp | ldxZpy | ldxAbs | ldxAby
      | ldyImm | ldyZp | ldyZpx | ldyAbs | ldyAbx | staZp | staZpx | staAbs | staAbx | staAby | staIzx | staIzy
      | stxZp | stxZpy | stxAbs | styZp | styZpx | styAbs | adcImm | adcZp | adcZpx | adcAbs | adcAbx | adcAby | adcIzx
      | adcIzy | andImm | andZp | andZpx | andAbs | andAbx | andAby | andIzx | andIzy | bitZp | bitAbs
      | aslAcc | aslZp | aslZpx | aslAbs | aslAbx | incZp | incZpx | incAbs | incAbx | decZp | decZpx | decAbs | decAbx
      | inx | iny | dex | dey | cmpImm | cmpZp | cmpZpx | cmpAbs | cmpAbx | cmpAby | cmpIzx | cmpIzy
      | cpxImm | cpxZp | cpxAbs | cpyImm | cpyZp | cpyAbs =>
    exact .of_complete h rfl nofun rfl
  case bpl | bmi | bvc | bvs | bcc | bcs | bne | beq =>
    exact .of_branch rfl h rfl rfl
  case jmpAbs addr16 | jmpInd addr16 =>
    refine .jump addr16 rfl rfl ?_
    rintro rfl
    exact congrArg Operand.addr (pc_of_complete h).symm
  all_goals exact (fault_ne_next h).elim

/-! ### The operand of the instruction at PC -/

/-- The operand bytes of the instruction decoded at PC are the bytes that follow its opcode. -/
theorem fetchDecode_operands {s : State} {i : Instr} (h : s.fetchDecode = some i) :
    i.operands = [s.operandByte 1, s.operandByte 2].take i.operands.length := by
  rw [Instr.operands_length]
  exact (decodeAt_some h).2

theorem operandByte_of_operands {s : State} {i : Instr} {b : Byte} (h : s.fetchDecode = some i) (hb : i.operands = [b]) :
    s.operandByte 1 = b := by
  have := fetchDecode_operands h
  rw [hb] at this
  exact (List.cons.inj this).1.symm

theorem absOperand_of_operands {s : State} {i : Instr} {w : Addr} (h : s.fetchDecode = some i)
    (hw : i.operands = [lowByte w, highByte w]) : absOperand s = w := by
  have hbytes := fetchDecode_operands h
  rw [hw] at hbytes
  obtain ⟨hlow, hhigh⟩ : lowByte w = s.operandByte 1 ∧ highByte w = s.operandByte 2 := by simpa using hbytes
  rw [absOperand, ← hlow, ← hhigh, word16_low_high]

/-- Settles O18: each clause meets one of the three rules and excludes the other two. -/
theorem pcAdvancesAsTheSequencerSays : Obligations.PcAdvancesAsTheSequencerSays := by
  intro s t i hi h
  cases exec_pcRule (exec_of_step hi h) with
  | advance notBranch notJmp hpc =>
    refine ⟨fun _ _ => hpc, fun taken htaken => ?_, fun hjmp => absurd hjmp notJmp⟩
    exact (Option.some_ne_none taken (htaken.symm.trans notBranch)).elim
  | branch taken rel8 htaken hoperand hpc =>
    refine ⟨fun notBranch => ?_, fun taken' htaken' => ?_, fun hjmp => absurd hjmp (ne_jmp_of_branch htaken)⟩
    · exact (Option.some_ne_none taken (htaken.symm.trans notBranch)).elim
    · cases htaken.symm.trans htaken'
      rw [← operandByte_of_operands hi hoperand] at hpc
      exact hpc
  | jump addr16 hjmp hoperand hpc =>
    exact ⟨fun _ notJmp => absurd hjmp notJmp, fun _ htaken => absurd hjmp (ne_jmp_of_branch htaken),
      fun _ => ⟨t.pc, hpc (absOperand_of_operands hi hoperand), rfl⟩⟩

end Sys2Proof.Machine
end

section
/-! PROOF. Loads and stores (41_load_store.md rules R160 to R165). What a completed instruction other than JMP leaves is said once
for a form that stores nothing and once for a form that stores a byte; the operand addresses are those of plain arithmetic
(40_step_and_addressing.md R133 to R141). -/

namespace Sys2Proof.Machine

/-! ### The addresses in plain arithmetic are those of the effective-address calculator -/

theorem natZp_eq_toNat_eaZp (zp8 : Byte) : natZp zp8 = (eaZp zp8).toNat :=
  (zext16_toNat zp8).symm

theorem natZpx_eq_toNat_eaZpx (zp8 : Byte) (s : State) : natZpx zp8 s = (eaZpx zp8 s).toNat :=
  (eaZpx_toNat zp8 s).symm

theorem natZpy_eq_toNat_eaZpy (zp8 : Byte) (s : State) : natZpy zp8 s = (eaZpy zp8 s).toNat := by
  rw [eaZpy, zext16_toNat, BitVec.toNat_add, natZpy]

theorem natAbs_eq_toNat_eaAbs (addr16 : Addr) : natAbs addr16 = (eaAbs addr16).toNat := rfl

theorem natAbx_eq_toNat_eaAbx (addr16 : Addr) (s : State) : natAbx addr16 s = (eaAbx addr16 s).toNat := by
  rw [eaAbx, BitVec.toNat_add, zext16_toNat, natAbx]

theorem natAby_eq_toNat_eaAby (addr16 : Addr) (s : State) : natAby addr16 s = (eaAby addr16 s).toNat := by
  rw [eaAby, BitVec.toNat_add, zext16_toNat, natAby]

/-- The pointer in the slot of page zero and the next one, which wraps (R140, R141). -/
theorem zpPointer_toNat (z : Byte) (s : State) :
    (zpPointer z s).toNat = natPointer s z.toNat ((z.toNat + 1) % 256) := by
  rw [zpPointer, word16_toNat, State.read, State.read, zext16_succ_toNat, zext16_toNat, natPointer]

theorem natIzx_eq_toNat_eaIzx (zp8 : Byte) (s : State) : natIzx zp8 s = (eaIzx zp8 s).toNat := by
  rw [eaIzx, zpPointer_toNat, BitVec.toNat_add, natIzx, natZpx]

theorem natIzy_eq_toNat_eaIzy (zp8 : Byte) (s : State) : natIzy zp8 s = (eaIzy zp8 s).toNat := by
  rw [eaIzy, BitVec.toNat_add, zpPointer_toNat, zext16_toNat, natIzy]

/-! ### What a completed form leaves -/

/-- Completing an instruction other than JMP after an operation that left PC and CYC alone: the length of its bytes and its base
cycles are added (R125, R126). -/
theorem exec_of_complete {i : Instr} {bytes : List Byte} {cycles : Nat} {s u : State} (hexec : exec i s = complete i u)
    (notJmp : i.entry.op ≠ .jmp) (hbytes : encode i = bytes) (hcycles : i.cycles = cycles) (hpc : u.pc = s.pc)
    (hcyc : u.cyc = s.cyc) :
    exec i s = .next { u with
      pc := s.pc + BitVec.ofNat 16 bytes.length
      cyc := s.cyc + BitVec.ofNat 64 cycles } := by
  subst hbytes hcycles
  rw [hexec, complete_of_not_jmp notJmp, encode_length, ← hpc, ← hcyc]
  rfl

/-- An instruction whose operation leaves PC and CYC alone has the form its bytes, its base cycles and the operation give it. -/
theorem Form.of_complete {i : Instr} {bytes : List Byte} {cycles : Nat} {s u : State} (hexec : exec i s = complete i u)
    (notJmp : i.entry.op ≠ .jmp) (hbytes : encode i = bytes) (hcycles : i.cycles = cycles) (hpc : u.pc = s.pc)
    (hcyc : u.cyc = s.cyc) : Form i bytes cycles s u :=
  ⟨hbytes, exec_of_complete hexec notJmp hbytes hcycles hpc hcyc⟩

/-- An instruction whose operation ends in writing one byte to the storage it started with: the byte reads back, and every other
address reads as before (20_memory.md R51). -/
theorem StoreForm.of_complete_write {i : Instr} {bytes : List Byte} {cycles : Nat} {s u : State} {ea : Addr} {v : Byte}
    (hexec : exec i s = complete i (u.write ea v)) (notJmp : i.entry.op ≠ .jmp) (hbytes : encode i = bytes)
    (hcycles : i.cycles = cycles) (hpc : u.pc = s.pc) (hcyc : u.cyc = s.cyc) (hmem : u.mem = s.mem) :
    StoreForm i bytes cycles s u ea v := by
  refine ⟨hbytes, _, exec_of_complete hexec notJmp hbytes hcycles hpc hcyc, rfl, State.read_write_same u ea v, fun p hp => ?_⟩
  calc (u.write ea v).read p
      _ = u.read p := State.read_write_ne u v hp
      _ = s.read p := by rw [State.read, State.read, hmem]

/-- An operation that only writes at its effective address makes no data read, in any mode (R146). -/
theorem read_not_mem_dataAccesses {d : Descriptor} (huse : dataUse d.op = .writes) (s after : State) (p : Addr) :
    Access.read p ∉ dataAccesses d s after := by
  unfold dataAccesses
  cases resolve d.mode s with
  | none | regA => exact List.not_mem_nil
  | addr ea => simp [huse]

/-! ### Loads -/

/-- Settles O35: each form completes after writing A, with the byte at the address the calculator gives. -/
theorem ldaLoadsItsOperandAndWritesNoFlag : Obligations.LdaLoadsItsOperandAndWritesNoFlag := by
  intro s imm8 zp8 addr16
  rw [natZp_eq_toNat_eaZp, natZpx_eq_toNat_eaZpx, natAbs_eq_toNat_eaAbs, natAbx_eq_toNat_eaAbx, natAby_eq_toNat_eaAby,
    natIzx_eq_toNat_eaIzx, natIzy_eq_toNat_eaIzy]
  refine ⟨?imm, ?zp, ?zpx, ?abs, ?abx, ?aby, ?izx, ?izy⟩
  all_goals exact .of_complete rfl nofun rfl rfl rfl rfl

/-- Settles O36: each form completes after writing X, and the indexed addresses are those with Y. -/
theorem ldxLoadsItsOperandAndWritesNoFlag : Obligations.LdxLoadsItsOperandAndWritesNoFlag := by
  intro s imm8 zp8 addr16
  rw [natZp_eq_toNat_eaZp, natZpy_eq_toNat_eaZpy, natAbs_eq_toNat_eaAbs, natAby_eq_toNat_eaAby]
  refine ⟨?imm, ?zp, ?zpy, ?abs, ?aby⟩
  all_goals exact .of_complete rfl nofun rfl rfl rfl rfl

/-- Settles O37: each form completes after writing Y, and the indexed addresses are those with X. -/
theorem ldyLoadsItsOperandAndWritesNoFlag : Obligations.LdyLoadsItsOperandAndWritesNoFlag := by
  intro s imm8 zp8 addr16
  rw [natZp_eq_toNat_eaZp, natZpx_eq_toNat_eaZpx, natAbs_eq_toNat_eaAbs, natAbx_eq_toNat_eaAbx]
  refine ⟨?imm, ?zp, ?zpx, ?abs, ?abx⟩
  all_goals exact .of_complete rfl nofun rfl rfl rfl rfl

/-! ### Stores -/

/-- Settles O38: each form completes after one write of A, and a store makes no data read. -/
theorem staStoresAAndChangesNothingElse : Obligations.StaStoresAAndChangesNothingElse := by
  intro s zp8 addr16
  refine ⟨?zp, ?zpx, ?abs, ?abx, ?aby, ?izx, ?izy, fun d after hsta => ?noRead⟩
  case noRead => exact read_not_mem_dataAccesses (congrArg dataUse hsta) s after
  all_goals exact .of_complete_write rfl nofun rfl rfl rfl rfl rfl

/-- Settles O39: each form completes after one write of X. -/
theorem stxStoresXAndChangesNothingElse : Obligations.StxStoresXAndChangesNothingElse := by
  intro s zp8 addr16
  refine ⟨?zp, ?zpy, ?abs⟩
  all_goals exact .of_complete_write rfl nofun rfl rfl rfl rfl rfl

/-- Settles O40: each form completes after one write of Y. -/
theorem styStoresYAndChangesNothingElse : Obligations.StyStoresYAndChangesNothingElse := by
  intro s zp8 addr16
  refine ⟨?zp, ?zpx, ?abs⟩
  all_goals exact .of_complete_write rfl nofun rfl rfl rfl rfl rfl

end Sys2Proof.Machine
end

section
/-! PROOF. AND and BIT (42_arith_logic.md rules R181, R182). The flags are bits of a byte in the model and comparisons of numbers
in the statements; the two operations are equations between whole states, which the forms complete. -/

namespace Sys2Proof.Machine

/-! ### Bits of a byte in plain arithmetic -/

/-- Bit 7 of a byte is set in its upper half. -/
theorem getLsbD_seven_eq_decide (v : Byte) : v.getLsbD 7 = decide (128 ≤ v.toNat) := by
  rw [← BitVec.msb_eq_getLsbD_last, BitVec.msb_eq_decide]

/-- Bit 6 of a byte, with bit 7 taken off. -/
theorem getLsbD_six_eq_decide (v : Byte) : v.getLsbD 6 = decide (64 ≤ v.toNat % 128) := by
  rw [BitVec.getLsbD, Nat.testBit_eq_decide_div_mod_eq, decide_eq_decide]
  omega

theorem isNegative_eq_decide (r : Byte) : isNegative r = decide (128 ≤ r.toNat) :=
  getLsbD_seven_eq_decide r

theorem isZero_eq_decide (r : Byte) : isZero r = decide (r = 0) := rfl

/-! ### What the operations leave -/

theorem opAnd_eq_afterAnd (m : Byte) (s : State) : opAnd m s = s.afterAnd m := by
  rw [State.afterAnd, ← isNegative_eq_decide, ← isZero_eq_decide]
  rfl

theorem opBit_eq_afterBit (m : Byte) (s : State) : opBit m s = s.afterBit m := by
  rw [State.afterBit, ← getLsbD_seven_eq_decide, ← getLsbD_six_eq_decide, ← isZero_eq_decide]
  rfl

/-! ### The forms -/

/-- Settles O43: each form completes after the operation, with the byte at the address the calculator gives. -/
theorem andMasksAAndSetsNz : Obligations.AndMasksAAndSetsNz := by
  intro s imm8 zp8 addr16
  rw [natZp_eq_toNat_eaZp, natZpx_eq_toNat_eaZpx, natAbs_eq_toNat_eaAbs, natAbx_eq_toNat_eaAbx, natAby_eq_toNat_eaAby,
    natIzx_eq_toNat_eaIzx, natIzy_eq_toNat_eaIzy]
  simp only [← opAnd_eq_afterAnd]
  refine ⟨?imm, ?zp, ?zpx, ?abs, ?abx, ?aby, ?izx, ?izy⟩
  all_goals exact .of_complete rfl nofun rfl rfl rfl rfl

/-- Settles O44: both forms complete after the operation, with the byte at the address the calculator gives. -/
theorem bitTestsMemoryAndSetsNvz : Obligations.BitTestsMemoryAndSetsNvz := by
  intro s zp8 addr16
  rw [natZp_eq_toNat_eaZp, natAbs_eq_toNat_eaAbs]
  simp only [← opBit_eq_afterBit]
  refine ⟨?zp, ?abs⟩
  all_goals exact .of_complete rfl nofun rfl rfl rfl rfl

end Sys2Proof.Machine
end

section
/-! PROOF. ASL (43_shift_incdec.md rule R200). The shift of a byte is its double modulo 256, so the model's result and flags are
those of the statement; a memory form ends in the one write of the doubled byte. -/

namespace Sys2Proof.Machine

/-! ### The shift in plain arithmetic -/

theorem aslResult_toNat (v : Byte) : (aslResult v).toNat = v.toNat * 2 % 256 := by
  rw [aslResult, BitVec.toNat_shiftLeft, Nat.shiftLeft_eq, Nat.pow_one]

theorem aslResult_eq_shifted (v : Byte) : aslResult v = shifted v := by
  rw [shifted, ← aslResult_toNat, BitVec.ofNat_toNat, BitVec.setWidth_eq]

/-- Z of the result compares its number with 0. -/
theorem isZero_eq_decide_toNat (r : Byte) : isZero r = decide (r.toNat = 0) := by
  rw [isZero_eq_decide, decide_eq_decide]
  exact BitVec.toNat_inj.symm

theorem Flags.asl_eq_afterShift (f : Flags) (v : Byte) : f.asl v = f.afterShift v := by
  rw [Flags.asl, Flags.afterShift, isNegative_eq_decide, isZero_eq_decide_toNat, getLsbD_seven_eq_decide, aslResult_toNat]

/-! ### What the operations leave -/

theorem opAslA_eq_afterShift (s : State) :
    opAslA s = { s with a := shifted s.a, flags := s.flags.afterShift s.a } := by
  rw [← aslResult_eq_shifted, ← Flags.asl_eq_afterShift]
  rfl

theorem opAslMem_eq_write (ea : Addr) (s : State) :
    opAslMem ea s = State.write { s with flags := s.flags.afterShift (s.read ea) } ea (shifted (s.read ea)) := by
  rw [← aslResult_eq_shifted, ← Flags.asl_eq_afterShift]
  rfl

/-- An operation that modifies the byte at its effective address reads it once and then writes it once (20_memory.md R63). -/
theorem dataAccesses_of_readsThenWrites {d : Descriptor} {s : State} {ea : Addr} (huse : dataUse d.op = .readsThenWrites)
    (hea : resolve d.mode s = .addr ea) (after : State) : dataAccesses d s after = [.read ea, .write ea (after.read ea)] := by
  simp only [dataAccesses, hea, huse]

/-! ### The forms -/

/-- Settles O45: the accumulator form completes after writing A and the flags, each memory form after the one write at the address
the calculator gives. -/
theorem aslShiftsLeftAndSetsNzc : Obligations.AslShiftsLeftAndSetsNzc := by
  intro s zp8 addr16
  refine ⟨?acc, ?zp, ?zpx, ?abs, ?abx, fun d after ea hasl hea => ?accesses⟩
  case acc =>
    rw [← opAslA_eq_afterShift]
    exact .of_complete rfl nofun rfl rfl rfl rfl
  case accesses => exact dataAccesses_of_readsThenWrites (congrArg dataUse hasl) hea after
  all_goals exact .of_complete_write (congrArg (complete _) (opAslMem_eq_write _ s)) nofun rfl rfl rfl rfl rfl

end Sys2Proof.Machine
end

section
/-! PROOF. CMP, CPX and CPY (44_compare.md rules R221 to R223). Compare of R220 takes N from the wrapped difference and Z from the
equality of the bytes, which are the comparisons of numbers in the statement; each form completes after writing those flags. -/

namespace Sys2Proof.Machine

/-! ### Compare in plain arithmetic -/

/-- N of a wrapped difference compares the difference modulo 256 with 128. -/
theorem isNegative_sub_eq_decide (r m : Byte) :
    isNegative (r - m) = decide (128 ≤ (r.toNat + 256 - m.toNat) % 256) := by
  have hsub : (r - m).toNat = (r.toNat + 256 - m.toNat) % 256 := by
    rw [BitVec.toNat_sub']
    omega
  rw [isNegative_eq_decide, hsub]

theorem Flags.compare_eq_afterCompare (f : Flags) (r m : Byte) : f.compare r m = f.afterCompare r m := by
  rw [Flags.compare, Flags.afterCompare, isNegative_sub_eq_decide, beq_eq_decide]

/-! ### The forms -/

/-- Settles O48: each form completes after writing the flags of its register compared with the byte at the address the calculator
gives. -/
theorem comparesSetNzcAndWriteNothingElse : Obligations.ComparesSetNzcAndWriteNothingElse := by
  intro s imm8 zp8 addr16
  rw [natZp_eq_toNat_eaZp, natZpx_eq_toNat_eaZpx, natAbs_eq_toNat_eaAbs, natAbx_eq_toNat_eaAbx, natAby_eq_toNat_eaAby,
    natIzx_eq_toNat_eaIzx, natIzy_eq_toNat_eaIzy]
  simp only [← Flags.compare_eq_afterCompare]
  refine ⟨?cmpImm, ?cmpZp, ?cmpZpx, ?cmpAbs, ?cmpAbx, ?cmpAby, ?cmpIzx, ?cmpIzy, ?cpxImm, ?cpxZp, ?cpxAbs, ?cpyImm, ?cpyZp,
    ?cpyAbs⟩
  all_goals exact .of_complete rfl nofun rfl rfl rfl rfl

end Sys2Proof.Machine
end

section
/-! PROOF. Branches and JMP (45_branch_jump.md rules R230 to R239). A branch adds its displacement before its length, which is the
signed sum of the statement modulo 65536; JMP keeps the PC its operation set and accesses nothing at its target. -/

namespace Sys2Proof.Machine

/-! ### Branches -/

theorem sext16_eq_ofInt (v : Byte) : sext16 v = BitVec.ofInt 16 v.toInt := rfl

/-- The PC a branch leaves, in the integers: the displacement counts from the next instruction (R230). -/
theorem branchTarget_eq_ofInt (taken : Bool) (rel8 : Byte) (pc : Addr) :
    (if taken then pc + sext16 rel8 else pc) + 2 =
      BitVec.ofInt 16 (if taken then (pc.toNat : Int) + 2 + rel8.toInt else (pc.toNat : Int) + 2) := by
  have hnext : BitVec.ofInt 16 ((pc.toNat : Int) + 2) = pc + 2 := by
    rw [BitVec.ofInt_add, BitVec.ofInt_natCast, BitVec.ofNat_toNat, BitVec.setWidth_eq]
    rfl
  cases taken with
  | false => exact hnext.symm
  | true =>
    calc pc + sext16 rel8 + 2
        _ = pc + 2 + sext16 rel8 := add_right_comm pc (sext16 rel8) 2
        _ = BitVec.ofInt 16 ((pc.toNat : Int) + 2 + rel8.toInt) := by rw [BitVec.ofInt_add, hnext, sext16_eq_ofInt]

/-- A two-byte, two-cycle instruction that completes after the execute phase of a branch has the form of one. -/
theorem BranchForm.of_complete {i : Instr} {opcode rel8 : Byte} {taken : Bool} {s : State}
    (hexec : exec i s = complete i (opBranch taken rel8 s)) (notJmp : i.entry.op ≠ .jmp)
    (hbytes : encode i = [opcode, rel8]) (hcycles : i.cycles = 2) : BranchForm i opcode rel8 taken s := by
  have hlength : i.length = 2 := by rw [← encode_length, hbytes]; rfl
  refine ⟨hbytes, ?_⟩
  rw [hexec, complete_of_not_jmp notJmp, hlength, hcycles, opBranch_eq, ← branchTarget_eq_ofInt]
  rfl

/-- Settles O50: each branch completes after the execute phase that tests its flag. -/
theorem branchesFollowTheirFlagWithASignedDisplacement :
    Obligations.BranchesFollowTheirFlagWithASignedDisplacement := by
  intro s rel8
  refine ⟨?bpl, ?bmi, ?bvc, ?bvs, ?bcc, ?bcs, ?bne, ?beq⟩
  all_goals exact .of_complete rfl nofun rfl rfl

/-! ### JMP -/

/-- The pointer's second byte stands at the next address modulo 65536 (R139). -/
theorem natInd_eq_toNat_eaInd (addr16 : Addr) (s : State) : natInd addr16 s = (eaInd addr16 s).toNat := by
  rw [eaInd, word16_toNat, State.read, State.read, BitVec.toNat_add]
  rfl

/-- Completing JMP: PC is the target with no length added, and the base cycles are added (R239, R125). -/
theorem exec_of_complete_opJmp {i : Instr} {s : State} {ea : Addr} {cycles : Nat}
    (hexec : exec i s = complete i (opJmp ea s)) (hjmp : i.entry.op = .jmp) (hcycles : i.cycles = cycles) :
    exec i s = .next { s with pc := ea, cyc := s.cyc + BitVec.ofNat 64 cycles } := by
  rw [hexec, complete_of_jmp hjmp, hcycles]
  rfl

/-- An operation with no use for its effective address makes no data access, in any mode (R146). -/
theorem dataAccesses_of_nothing {d : Descriptor} (huse : dataUse d.op = .nothing) (s after : State) :
    dataAccesses d s after = [] := by
  unfold dataAccesses
  cases resolve d.mode s with
  | none | regA => rfl
  | addr ea => simp only [huse]

/-- Settles O51: both forms complete with PC the address the calculator gives, and JMP has no use for the byte there. -/
theorem jmpGoesToTheResolvedAddress : Obligations.JmpGoesToTheResolvedAddress := by
  intro s addr16
  rw [natInd_eq_toNat_eaInd, BitVec.ofNat_toNat, BitVec.setWidth_eq]
  exact ⟨rfl, exec_of_complete_opJmp rfl rfl rfl, rfl, exec_of_complete_opJmp rfl rfl rfl,
    fun d after hjmp => dataAccesses_of_nothing (congrArg dataUse hjmp) s after⟩

end Sys2Proof.Machine
end

section
/-! PROOF. The decoder and the encoder are inverse to each other (30_encoding.md rules R84, R91), and which bytes the decoder
rejects (R89). The decoder reads as many operand bytes as the mode has; what it makes of them is a constructor applied to the byte,
or to the two bytes as a word. -/

namespace Sys2Proof

/-! ### Operand bytes at the head of a list -/

theorem Mode.operandBytes_le_two (m : Mode) : m.operandBytes ≤ 2 := by
  cases m <;> decide

/-- The decoder's two looks ahead, cut to the operand bytes, are the head of a list that is long enough. -/
theorem take_getD_eq_take {n : Nat} {l : List Byte} (hn : n ≤ 2) (hl : n ≤ l.length) :
    [l.getD 0 0, l.getD 1 0].take n = l.take n := by
  match n, l, hn, hl with
  | 0, _, _, _ => rfl
  | 1, _ :: _, _, _ => rfl
  | 2, _ :: _ :: _, _, _ => rfl

theorem Instr.operands_append_take (i : Instr) (rest : List Byte) :
    (i.operands ++ rest).take i.entry.mode.operandBytes = i.operands :=
  List.take_left' i.operands_length

theorem Instr.operands_append_drop (i : Instr) (rest : List Byte) :
    (i.operands ++ rest).drop i.entry.mode.operandBytes = rest :=
  List.drop_left' i.operands_length

/-! ### Encoding, then decoding -/

/-- An opcode whose decoder arm applies a constructor to the operand byte. -/
theorem decodeAt_of_byte {f : Byte → Instr} {op b b1 b2 : Byte} (harm : decodeAt op b1 b2 = some (f b1))
    (hoperand : [b] = [b1]) : decodeAt op b1 b2 = some (f b) := by
  cases hoperand
  exact harm

/-- An opcode whose decoder arm applies a constructor to the word of the two operand bytes. -/
theorem decodeAt_of_word {f : Addr → Instr} {op : Byte} {w : Addr} {b1 b2 : Byte}
    (harm : decodeAt op b1 b2 = some (f (word16 b1 b2))) (hoperand : [lowByte w, highByte w] = [b1, b2]) :
    decodeAt op b1 b2 = some (f w) := by
  cases hoperand
  rw [harm, word16_low_high]

/-- The decoder answers an instruction on its opcode byte and its operand bytes. -/
theorem decodeAt_opcode {i : Instr} {b1 b2 : Byte} (h : i.operands = [b1, b2].take i.entry.mode.operandBytes) :
    decodeAt i.opcode b1 b2 = some i := by
  cases i
  case aslAcc | inx | iny | dex | dey | lsrAcc | rolAcc | rorAcc | tax | tay | txa | tya | tsx | txs | pha | pla
      | php | plp | rts | rti | brk | nop | clc | sec | cli | sei | clv | cld | sed =>
    rfl
  case ldaAbs | ldaAbx | ldaAby | ldxAbs | ldxAby | ldyAbs | ldyAbx | staAbs | staAbx | staAby | stxAbs | styAbs | adcAbs
      | adcAbx | adcAby | andAbs | andAbx | andAby | bitAbs | aslAbs | aslAbx | incAbs | incAbx | decAbs | decAbx | cmpAbs
      | cmpAbx | cmpAby | cpxAbs | cpyAbs | jmpAbs | jmpInd | oraAbs | oraAbx | oraAby | eorAbs | eorAbx | eorAby | sbcAbs
      | sbcAbx | sbcAby | lsrAbs | lsrAbx | rolAbs | rolAbx | rorAbs | rorAbx | jsr =>
    exact decodeAt_of_word rfl h
  all_goals exact decodeAt_of_byte rfl h

/-! What the decoder makes of a list that is not empty, case by case. -/

theorem decode_of_unknown {b : Byte} {l : List Byte} (hi : decodeAt b (l.getD 0 0) (l.getD 1 0) = none) :
    decode (b :: l) = .error (.unknownOpcode b) := by
  simp only [decode, hi]

theorem decode_of_truncated {b : Byte} {l : List Byte} {i : Instr} (hi : decodeAt b (l.getD 0 0) (l.getD 1 0) = some i)
    (hl : l.length < i.entry.mode.operandBytes) : decode (b :: l) = .error (.truncated i.length (l.length + 1)) := by
  simp only [decode, hi, if_pos hl]

theorem decode_of_decodeAt {b : Byte} {l : List Byte} {i : Instr} (hi : decodeAt b (l.getD 0 0) (l.getD 1 0) = some i)
    (hl : i.entry.mode.operandBytes ≤ l.length) : decode (b :: l) = .ok (i, l.drop i.entry.mode.operandBytes) := by
  simp only [decode, hi, if_neg hl.not_gt]

theorem decode_encode_append (i : Instr) (rest : List Byte) : decode (encode i ++ rest) = .ok (i, rest) := by
  have hlen : i.entry.mode.operandBytes ≤ (i.operands ++ rest).length := by
    rw [List.length_append, i.operands_length]
    exact Nat.le_add_right _ _
  have hbytes := take_getD_eq_take i.entry.mode.operandBytes_le_two hlen
  rw [i.operands_append_take] at hbytes
  calc decode (i.opcode :: (i.operands ++ rest))
      _ = .ok (i, (i.operands ++ rest).drop i.entry.mode.operandBytes) :=
        decode_of_decodeAt (decodeAt_opcode hbytes.symm) hlen
      _ = .ok (i, rest) := by rw [i.operands_append_drop]

theorem Instr.wellFormed_eq_true (i : Instr) : i.wellFormed = true := by
  cases i <;> rfl

/-- Settles O1: the operand bytes an instruction is encoded with are those the decoder reads back. -/
theorem decodeOfEncodeIsTheInstruction : Obligations.DecodeOfEncodeIsTheInstruction :=
  fun i rest => ⟨i.wellFormed_eq_true, decode_encode_append i rest⟩

/-! ### Decoding, then encoding -/

/-- What the decoder accepts: an opcode byte with its instruction, and enough bytes after it. -/
theorem decode_ok {bytes rest : List Byte} {i : Instr} (h : decode bytes = .ok (i, rest)) :
    ∃ b l, bytes = b :: l ∧ decodeAt b (l.getD 0 0) (l.getD 1 0) = some i ∧ i.entry.mode.operandBytes ≤ l.length ∧
      rest = l.drop i.entry.mode.operandBytes := by
  cases bytes with
  | nil => cases h
  | cons b l =>
    cases hi : decodeAt b (l.getD 0 0) (l.getD 1 0) with
    | none => cases (decode_of_unknown hi).symm.trans h
    | some j =>
      rcases lt_or_ge l.length j.entry.mode.operandBytes with hlen | hlen
      · cases (decode_of_truncated hi hlen).symm.trans h
      · cases (decode_of_decodeAt hi hlen).symm.trans h
        exact ⟨b, l, rfl, hi, hlen, rfl⟩

/-- Settles O2: the bytes taken are the opcode byte and the operand bytes, and the rest follows them. -/
theorem decodedBytesAreTheEncoding : Obligations.DecodedBytesAreTheEncoding := by
  intro bytes rest i h
  obtain ⟨b, l, rfl, hi, hlen, rfl⟩ := decode_ok h
  obtain ⟨hopcode, hoperands⟩ := decodeAt_some hi
  rw [take_getD_eq_take i.entry.mode.operandBytes_le_two hlen] at hoperands
  rw [encode, hopcode, hoperands, List.cons_append, List.take_append_drop]

/-! ### The illegal bytes -/

/-- Only the opcode byte decides whether the decoder answers. -/
theorem decodeAt_eq_none_iff (b b1 b2 : Byte) : decodeAt b b1 b2 = none ↔ decodeByte b = none := by
  rw [← decodeAt_descriptor b b1 b2, Option.map_eq_none_iff]

/-- The grid of R87 and the list of R89 divide the 256 bytes. -/
theorem decodeByte_eq_none_iff (b : Byte) : decodeByte b = none ↔ b.toNat ∈ Machine.illegalBytes := by
  revert b
  decide +kernel

theorem decode_eq_unknownOpcode_iff (b : Byte) (rest : List Byte) :
    decode (b :: rest) = .error (.unknownOpcode b) ↔ decodeAt b (rest.getD 0 0) (rest.getD 1 0) = none := by
  refine ⟨fun h => ?_, decode_of_unknown⟩
  cases hi : decodeAt b (rest.getD 0 0) (rest.getD 1 0) with
  | none => rfl
  | some i =>
    rcases lt_or_ge rest.length i.entry.mode.operandBytes with hlen | hlen
    · cases (decode_of_truncated hi hlen).symm.trans h
    · cases (decode_of_decodeAt hi hlen).symm.trans h

/-- Settles O3: both decoders reject by the opcode byte alone, and the bytes rejected are the listed ones. -/
theorem illegalBytesAreExactlyTheListedOnes : Obligations.IllegalBytesAreExactlyTheListedOnes := by
  refine ⟨rfl, fun b b1 b2 => ?_, fun b rest => ?_⟩
  · rw [decodeAt_eq_none_iff, decodeByte_eq_none_iff]
  · rw [decode_eq_unknownOpcode_iff, decodeAt_eq_none_iff, decodeByte_eq_none_iff]

/-! ### The opcode table -/

theorem mem_opcodeTable_iff (r : TableRow) : r ∈ opcodeTable ↔ decodeByte r.opcode = some r.descriptor := by
  simp only [opcodeTable, List.mem_filterMap, List.mem_range, Option.map_eq_some_iff]
  constructor
  · rintro ⟨n, -, d, hd, rfl⟩
    exact hd
  · intro hd
    refine ⟨r.opcode.toNat, r.opcode.isLt, r.descriptor, ?_⟩
    rw [BitVec.ofNat_toNat, BitVec.setWidth_eq]
    exact ⟨hd, rfl⟩

/-- The row of an instruction's opcode byte. -/
def Instr.row (i : Instr) : TableRow := ⟨i.opcode, i.descriptor⟩

/-- The opcode byte of an instruction decodes to its descriptor. -/
theorem decodeByte_opcode (i : Instr) : decodeByte i.opcode = some i.descriptor := by
  have hoperands := take_getD_eq_take i.entry.mode.operandBytes_le_two i.operands_length.ge
  rw [List.take_of_length_le i.operands_length.le] at hoperands
  rw [← decodeAt_descriptor, decodeAt_opcode hoperands.symm, Option.map_some]

theorem Instr.row_mem_opcodeTable (i : Instr) : i.row ∈ opcodeTable :=
  (mem_opcodeTable_iff i.row).mpr (decodeByte_opcode i)

/-- No entry stands in two rows (R92). -/
theorem opcodeTable_entries_nodup : (opcodeTable.map TableRow.entry).Nodup := by
  decide +kernel

/-- Settles O4: the opcode byte decodes to the entry, and the table has one row for it. -/
theorem oneOpcodeByteForEachPairOfOperationAndMode : Obligations.OneOpcodeByteForEachPairOfOperationAndMode := by
  intro i j
  constructor
  · intro hopcode
    have hdescriptor : some i.descriptor = some j.descriptor := by
      rw [← decodeByte_opcode i, ← decodeByte_opcode j, hopcode]
    exact congrArg (fun d : Descriptor => (⟨d.op, d.mode⟩ : Entry)) (Option.some.inj hdescriptor)
  · intro hentry
    exact congrArg TableRow.opcode
      (List.inj_on_of_nodup_map opcodeTable_entries_nodup i.row_mem_opcodeTable j.row_mem_opcodeTable hentry)

/-! ### The encoder -/

theorem length_sub_one_of_row {i : Instr} {r : TableRow} (h : i.descriptor = r.descriptor) :
    r.descriptor.length - 1 = i.entry.mode.operandBytes := by
  rw [← h]
  exact Nat.add_sub_cancel_left 1 i.entry.mode.operandBytes

/-- The opcode byte of a row and the right number of operand bytes decode to an instruction of that row. -/
theorem decode_row {r : TableRow} (hr : r ∈ opcodeTable) {operands : List Byte}
    (hlen : operands.length = r.descriptor.length - 1) :
    ∃ i, decode (r.opcode :: operands) = .ok (i, []) ∧ i.opcode = r.opcode ∧ i.descriptor = r.descriptor ∧
      i.operands = operands := by
  have hd := (mem_opcodeTable_iff r).mp hr
  rw [← decodeAt_descriptor r.opcode (operands.getD 0 0) (operands.getD 1 0)] at hd
  obtain ⟨i, hi, hdescriptor⟩ := Option.map_eq_some_iff.mp hd
  obtain ⟨hopcode, hoperands⟩ := decodeAt_some hi
  rw [length_sub_one_of_row hdescriptor] at hlen
  rw [take_getD_eq_take i.entry.mode.operandBytes_le_two hlen.ge, List.take_of_length_le hlen.le] at hoperands
  refine ⟨i, ?_, hopcode, hdescriptor, hoperands⟩
  rw [decode_of_decodeAt hi hlen.ge, List.drop_of_length_le hlen.le]

/-- Settles O5: the encoder compares the counts and no more, and the row's bytes decode. -/
theorem encoderChecksTheOperandCount : Obligations.EncoderChecksTheOperandCount := by
  intro r hr operands
  constructor
  · intro hlen
    obtain ⟨i, hi⟩ := decode_row hr hlen
    exact ⟨_, i, if_pos hlen, hi⟩
  · exact fun hlen => if_neg hlen

/-- Settles O6: each list is the encoding of the instruction it is said to be. -/
theorem specWordsDecodeToTheirInstructions : Obligations.SpecWordsDecodeToTheirInstructions :=
  ⟨decode_encode_append (.ldaImm 0x12) [], decode_encode_append (.ldaIzx 0x20) [], decode_encode_append (.jmpInd 0x0310) [],
    decode_encode_append (.aslAbx 0x0200) [], decode_encode_append (.stxZpy 0xFF) [], decode_encode_append (.bne 0xFB) [],
    decode_encode_append .inx [], decode_encode_append (.jsr 0x1234) []⟩

end Sys2Proof
end

section
/-! PROOF. The step and the step algorithm (40_step_and_addressing.md rules R120, R121). What stands at PC decides a step: an
illegal byte, a decode-only opcode or an executable one. `StepShape` says for each what `step` and `sequencer` do; the statements
about faults, outcomes and the status port follow from it. -/

namespace Sys2Proof.Machine

/-! ### Decoding at PC -/

theorem fetchDecode_descriptor (s : State) : s.fetchDecode.map Instr.descriptor = decodeByte (s.read s.pc) := by
  rw [← State.operandByte_zero]
  exact decodeAt_descriptor _ _ _

theorem fetchDecode_of_decodeByte_none {s : State} (h : decodeByte (s.read s.pc) = none) : s.fetchDecode = none := by
  rw [← fetchDecode_descriptor, Option.map_eq_none_iff] at h
  exact h

theorem fetchDecode_of_decodeByte_some {s : State} {d : Descriptor} (h : decodeByte (s.read s.pc) = some d) :
    ∃ i, s.fetchDecode = some i ∧ i.descriptor = d := by
  rw [← fetchDecode_descriptor, Option.map_eq_some_iff] at h
  exact h

theorem fetchIr_eq (s : State) : s.fetchIr = { s with ir := s.read s.pc } := by
  rw [State.fetchIr, State.operandByte_zero]
  rfl

/-! ### A meaning is Resolve by mode and Execute by operation -/

/-- The meaning of an executable instruction completes with what `execute` makes of its resolved operand, when the instruction's
operand is the one in storage at PC. -/
theorem execute_of_fetchDecode {s : State} {i : Instr} (hi : s.fetchDecode = some i) (hc : i.cls = .exec) :
    ∃ u, execute i.entry.op (resolve i.entry.mode s) s = some u ∧ exec i s = complete i u := by
  cases i
  case aslAcc | inx | iny | dex | dey =>
    exact ⟨_, rfl, rfl⟩
  case ldaImm | ldaZp | ldaZpx | ldaIzx | ldaIzy | ldxImm | ldxZp | ldxZpy | ldyImm | ldyZp | ldyZpx | staZp | staZpx
      | staIzx | staIzy | stxZp | stxZpy | styZp | styZpx | adcImm | adcZp | adcZpx | adcIzx | adcIzy | andImm | andZp
      | andZpx | andIzx | andIzy | bitZp | aslZp | aslZpx | incZp | incZpx | decZp | decZpx | cmpImm | cmpZp | cmpZpx
      | cmpIzx | cmpIzy | cpxImm | cpxZp | cpyImm | cpyZp | bpl | bmi | bvc | bvs | bcc | bcs | bne | beq =>
    obtain rfl := operandByte_of_operands hi rfl
    exact ⟨_, rfl, rfl⟩
  case ldaAbs | ldaAbx | ldaAby | ldxAbs | ldxAby | ldyAbs | ldyAbx | staAbs | staAbx | staAby | stxAbs | styAbs | adcAbs
      | adcAbx | adcAby | andAbs | andAbx | andAby | bitAbs | aslAbs | aslAbx | incAbs | incAbx | decAbs | decAbx | cmpAbs
      | cmpAbx | cmpAby | cpxAbs | cpyAbs | jmpAbs | jmpInd =>
    obtain rfl := absOperand_of_operands hi rfl
    exact ⟨_, rfl, rfl⟩
  all_goals cases hc

/-- A decode-only instruction neither completes nor is refused, so it faults. -/
theorem exec_of_decodeOnly {i : Instr} (hc : i.cls = .decodeOnly) (s : State) :
    exec i s = .fault (.unimplementedOperation i.entry.op i.entry.mode s.pc) := by
  cases h : exec i s with
  | next t => cases hc.symm.trans (exec_next h).1
  | fault f => rw [(exec_fault h).2]
  | refused r => exact (exec_ne_refused i s r h).elim

/-! ### The three shapes of a step -/

theorem step_of_fetchDecode {s : State} {i : Instr} (hi : s.fetchDecode = some i) : step s = exec i s.fetchIr := by
  simp only [step, hi]

theorem step_of_unknown {s : State} (hd : decodeByte (s.read s.pc) = none) :
    step s = .fault (.unknownOpcode (s.read s.pc) s.pc) := by
  simp only [step, fetchDecode_of_decodeByte_none hd, State.operandByte_zero, raise]

theorem step_of_decodeOnly {s : State} {d : Descriptor} (hd : decodeByte (s.read s.pc) = some d) (hc : d.cls = .decodeOnly) :
    step s = .fault (.unimplementedOperation d.op d.mode s.pc) := by
  obtain ⟨i, hi, rfl⟩ := fetchDecode_of_decodeByte_some hd
  rw [step_of_fetchDecode hi]
  exact exec_of_decodeOnly hc s.fetchIr

theorem sequencer_of_unknown {s : State} (hd : decodeByte (s.read s.pc) = none) :
    sequencer s = ⟨some (.unknownOpcode (s.read s.pc) s.pc), s.fetchIr, [.read s.pc]⟩ := by
  rw [← State.operandByte_zero] at hd ⊢
  simp only [sequencer, hd, State.fetchIr]

theorem sequencer_of_decodeOnly {s : State} {d : Descriptor} (hd : decodeByte (s.read s.pc) = some d)
    (hc : d.cls = .decodeOnly) :
    sequencer s = ⟨some (.unimplementedOperation d.op d.mode s.pc), s.fetchIr, [.read s.pc]⟩ := by
  rw [← State.operandByte_zero] at hd
  simp only [sequencer, hd, hc, reduceCtorEq, if_false, State.fetchIr]

/-- The accesses of a completed step that started in `s` and whose operation left `u`. -/
def completedAccesses (d : Descriptor) (s u : State) : List Access :=
  .read s.pc :: (operandAccesses d.mode s ++ pointerAccesses d.mode s ++ dataAccesses d s u)

/-- What `step` and `sequencer` do, by the byte at PC. -/
inductive StepShape (s : State) : Prop
  | unknown (hd : decodeByte (s.read s.pc) = none)
      (hstep : step s = .fault (.unknownOpcode (s.read s.pc) s.pc))
      (hseq : sequencer s = ⟨some (.unknownOpcode (s.read s.pc) s.pc), s.fetchIr, [.read s.pc]⟩)
  | decodeOnly (d : Descriptor) (hd : decodeByte (s.read s.pc) = some d) (hc : d.cls = .decodeOnly)
      (hstep : step s = .fault (.unimplementedOperation d.op d.mode s.pc))
      (hseq : sequencer s = ⟨some (.unimplementedOperation d.op d.mode s.pc), s.fetchIr, [.read s.pc]⟩)
  | completes (i : Instr) (u : State) (hd : decodeByte (s.read s.pc) = some i.descriptor) (hc : i.cls = .exec)
      (hu : execute i.entry.op (resolve i.entry.mode s) s.fetchIr = some u)
      (hstep : step s = .next (afterExecute i.descriptor u))
      (hseq : sequencer s = ⟨none, afterExecute i.descriptor u, completedAccesses i.descriptor s u⟩)

theorem stepShape_of_exec {s : State} {d : Descriptor} (hd : decodeByte (s.read s.pc) = some d) (hc : d.cls = .exec) :
    StepShape s := by
  obtain ⟨i, hi, rfl⟩ := fetchDecode_of_decodeByte_some hd
  obtain ⟨u, hu, hexec⟩ := execute_of_fetchDecode (s := s.fetchIr) hi hc
  have hseq := sequencer_of_execute (s.operandByte_zero.symm ▸ hd) hc hu
  exact .completes i u hd hc hu ((step_of_fetchDecode hi).trans hexec) hseq

theorem stepShape (s : State) : StepShape s := by
  cases hd : decodeByte (s.read s.pc) with
  | none => exact .unknown hd (step_of_unknown hd) (sequencer_of_unknown hd)
  | some d =>
    cases hc : d.cls with
    | exec => exact stepShape_of_exec hd hc
    | decodeOnly => exact .decodeOnly d hd hc (step_of_decodeOnly hd hc) (sequencer_of_decodeOnly hd hc)

/-- Settles O9: in each of the three shapes the two steps give the same outcome and leave the same state. -/
theorem stepAgreesWithTheStepAlgorithm : Obligations.StepAgreesWithTheStepAlgorithm := by
  intro s
  cases stepShape s with
  | unknown hd hstep hseq | decodeOnly d hd hc hstep hseq =>
    rw [hseq, afterStep_of_fault hstep]
    exact ⟨hstep, rfl⟩
  | completes i u hd hc hu hstep hseq =>
    rw [hseq, afterStep_of_next hstep]
    exact ⟨hstep, rfl⟩

/-- Settles O8: what the decoder answers on the three bytes is what the fetch decodes. -/
theorem stepRunsTheDecodedInstruction : Obligations.StepRunsTheDecodedInstruction := by
  intro s i rest h
  obtain ⟨b, l, hbytes, hi, -⟩ := decode_ok h
  cases hbytes
  rw [← fetchIr_eq]
  refine step_of_fetchDecode ?_
  rw [State.fetchDecode, State.operandByte_zero]
  exact hi

/-! ### Faults -/

/-- Settles O10: the byte decodes to nothing, and a fault leaves what fetching IR left. -/
theorem illegalByteFaultsAndChangesOnlyIr : Obligations.IllegalByteFaultsAndChangesOnlyIr := by
  intro s hillegal
  have hstep := step_of_unknown ((decodeByte_eq_none_iff _).mpr hillegal)
  exact ⟨hstep, (afterStep_of_fault hstep).trans (fetchIr_eq s)⟩

/-- Settles O11: the same with the descriptor's fault. -/
theorem decodeOnlyByteFaultsAndChangesOnlyIr : Obligations.DecodeOnlyByteFaultsAndChangesOnlyIr := by
  intro s d hd hc
  have hstep := step_of_decodeOnly hd hc
  exact ⟨hstep, (afterStep_of_fault hstep).trans (fetchIr_eq s)⟩

/-- A fault depends on PC and the byte there alone. -/
theorem step_fault_congr {s s' : State} {f : Fault} (hpc : s'.pc = s.pc) (hread : s'.read s.pc = s.read s.pc)
    (h : step s = .fault f) : step s' = .fault f := by
  cases stepShape s with
  | unknown hd hstep hseq =>
    rw [← hstep.symm.trans h, ← hread, ← hpc]
    exact step_of_unknown (by rw [hpc, hread, hd])
  | decodeOnly d hd hc hstep hseq =>
    rw [← hstep.symm.trans h, ← hpc]
    exact step_of_decodeOnly (by rw [hpc, hread, hd]) hc
  | completes i u hd hc hu hstep hseq => exact (next_ne_fault (hstep.symm.trans h)).elim

/-- Settles O15: a faulting step leaves PC and storage, and fetching IR again writes the same byte. -/
theorem faultRepeatsUntilStorageChanges : Obligations.FaultRepeatsUntilStorageChanges := by
  intro s f h
  rw [afterStep_of_fault h]
  have hagain : step s.fetchIr = .fault f := step_fault_congr s.fetchIr_pc (s.fetchIr_read s.pc) h
  exact ⟨hagain, afterStep_of_fault hagain⟩

/-! ### Outcomes -/

/-- Settles O16: the three shapes are the three ways. -/
theorem stepEndsInOneOfThreeWays : Obligations.StepEndsInOneOfThreeWays := by
  intro s
  cases stepShape s with
  | unknown hd hstep hseq => exact .inr (.inl hstep)
  | decodeOnly d hd hc hstep hseq => exact .inr (.inr ⟨d, hd, hstep⟩)
  | completes i u hd hc hu hstep hseq => exact .inl ⟨_, hstep⟩

theorem not_completes_of_fault {s : State} {f : Fault} (h : step s = .fault f) : ¬ Completes s :=
  fun ⟨_, hnext⟩ => fault_ne_next (h.symm.trans hnext)

/-- Settles O17: the shape of a step that completes is that of an executable byte, and no other. -/
theorem stepCompletesExactlyOnExecutableOpcodes : Obligations.StepCompletesExactlyOnExecutableOpcodes := by
  intro s
  cases stepShape s with
  | unknown hd hstep hseq => simp [not_completes_of_fault hstep, hd]
  | decodeOnly d hd hc hstep hseq => simp [not_completes_of_fault hstep, hd, hc]
  | completes i u hd hc hu hstep hseq => exact ⟨fun _ => ⟨_, hd, hc⟩, fun _ => ⟨_, hstep⟩⟩

/-- Settles O56: the status of each shape has its own code. -/
theorem statusPortTellsTheOutcomeOfTheStep : Obligations.StatusPortTellsTheOutcomeOfTheStep := by
  intro s
  rw [stepCompletesExactlyOnExecutableOpcodes s, ← decodeByte_eq_none_iff]
  simp only [HostMove.apply, State.stepResponse]
  cases stepShape s with
  | unknown hd hstep hseq =>
    rw [hstep, hd]
    exact ⟨_, rfl, by simp [Fault.status, Status.code]⟩
  | decodeOnly d hd hc hstep hseq =>
    rw [hstep, hd]
    exact ⟨_, rfl, by simp [Fault.status, Status.code, hc]⟩
  | completes i u hd hc hu hstep hseq =>
    rw [hstep, hd]
    have hcls : i.descriptor.cls = .exec := hc
    exact ⟨_, rfl, by simp [Status.code, hcls]⟩

end Sys2Proof.Machine
end

section
/-! PROOF. The storage accesses of a step (20_memory.md rules R61 to R63, 40_step_and_addressing.md R146). The data accesses at an
effective address are counted by the columns of R146; the writes among them are what the operation did to storage. -/

namespace Sys2Proof.Machine

/-! ### The data accesses by the columns of R146 -/

theorem dataUse_eq (op : Op) : dataUse op =
    if readsOperand op then (if writesOperand op then .readsThenWrites else .reads)
    else (if writesOperand op then .writes else .nothing) := by
  cases op <;> rfl

theorem accessesData_of_addr {m : Mode} {s : State} {ea : Addr} (hea : resolve m s = .addr ea) (himm : m ≠ .imm) :
    accessesData m = true := by
  cases m
  case imp | acc => cases hea
  case imm => exact (himm rfl).elim
  all_goals rfl

theorem not_accessesData {m : Mode} {s : State} (h : ∀ ea, resolve m s ≠ .addr ea) : accessesData m = false := by
  cases m
  case imp | acc => rfl
  all_goals exact (h _ rfl).elim

/-- No operation with an immediate form stores (R145). -/
theorem writesOperand_of_imm {i : Instr} (h : i.entry.mode = .imm) : writesOperand i.entry.op = false := by
  cases i
  case ldaImm | ldxImm | ldyImm | adcImm | andImm | cmpImm | cpxImm | cpyImm | oraImm | eorImm | sbcImm => rfl
  all_goals cases h

/-- At an effective address: the data reads of the table, then its data writes of the byte the operation left there. -/
theorem dataAccesses_eq_replicate {i : Instr} {s : State} {ea : Addr} (hea : resolve i.entry.mode s = .addr ea) (after : State) :
    dataAccesses i.descriptor s after = List.replicate (dataReads i.descriptor) (.read ea) ++
      List.replicate (dataWrites i.descriptor) (.write ea (after.read ea)) := by
  by_cases himm : i.entry.mode = .imm
  · have hwrites := writesOperand_of_imm himm
    rw [himm] at hea
    simp only [dataAccesses, Instr.descriptor, himm, hea, dataUse_eq, dataReads, dataWrites, hwrites, accessesData]
    cases readsOperand i.entry.op <;> rfl
  · have haccesses := accessesData_of_addr hea himm
    simp only [dataAccesses, Instr.descriptor, hea, dataUse_eq, dataReads, dataWrites, himm, haccesses]
    cases readsOperand i.entry.op <;> cases writesOperand i.entry.op <;> rfl

/-- At an effective address the operation alone decides whether a write is made. -/
theorem dataWrites_of_addr {i : Instr} {s : State} {ea : Addr} (hea : resolve i.entry.mode s = .addr ea) :
    dataWrites i.descriptor = if writesOperand i.entry.op then 1 else 0 := by
  by_cases himm : i.entry.mode = .imm
  · simp [dataWrites, Instr.descriptor, writesOperand_of_imm himm]
  · simp [dataWrites, Instr.descriptor, accessesData_of_addr hea himm]

/-- Without an effective address there is no data access. -/
theorem dataAccesses_of_no_addr {d : Descriptor} {s : State} (h : ∀ ea, resolve d.mode s ≠ .addr ea) (after : State) :
    dataAccesses d s after = [] := by
  unfold dataAccesses
  cases hr : resolve d.mode s with
  | none | regA => rfl
  | addr ea => exact (h ea hr).elim

/-- The counts of `dataAccesses` in every mode: without an effective address there is none. -/
theorem dataAccesses_counts (i : Instr) (s after : State) :
    readCount (dataAccesses i.descriptor s after) = dataReads i.descriptor ∧
      writeCount (dataAccesses i.descriptor s after) = dataWrites i.descriptor := by
  by_cases h : ∃ ea, resolve i.entry.mode s = .addr ea
  · obtain ⟨ea, hea⟩ := h
    simp [dataAccesses_eq_replicate hea, readCount, writeCount, List.countP_replicate]
  · have hno := not_exists.mp h
    have haccesses : accessesData i.descriptor.mode = false := not_accessesData hno
    simp [dataAccesses_of_no_addr (d := i.descriptor) hno, dataReads, dataWrites, haccesses, readCount, writeCount]

/-! ### The other accesses are reads -/

theorem operandAccesses_length (m : Mode) (s : State) : (operandAccesses m s).length = m.operandBytes := by
  rw [operandAccesses, List.length_map, List.length_range]

theorem pointerAccesses_length (m : Mode) (s : State) : (pointerAccesses m s).length = pointerReads m := by
  cases m <;> rfl

theorem isRead_of_mem_operandAccesses {m : Mode} {s : State} {x : Access} (h : x ∈ operandAccesses m s) :
    ∃ a, x = .read a := by
  obtain ⟨k, -, rfl⟩ := List.mem_map.mp h
  exact ⟨_, rfl⟩

theorem isRead_of_mem_pointerAccesses {m : Mode} {s : State} {x : Access} (h : x ∈ pointerAccesses m s) :
    ∃ a, x = .read a := by
  cases m
  case ind | izx | izy =>
    simp only [pointerAccesses, zpPointerAccesses, List.mem_cons, List.not_mem_nil, or_false] at h
    rcases h with rfl | rfl <;> exact ⟨_, rfl⟩
  all_goals cases h

theorem readCount_of_reads {l : List Access} (h : ∀ x ∈ l, ∃ a, x = .read a) : readCount l = l.length := by
  refine List.countP_eq_length.mpr fun x hx => ?_
  obtain ⟨a, rfl⟩ := h x hx
  rfl

theorem writeCount_of_reads {l : List Access} (h : ∀ x ∈ l, ∃ a, x = .read a) : writeCount l = 0 := by
  refine List.countP_eq_zero.mpr fun x hx => ?_
  obtain ⟨a, rfl⟩ := h x hx
  exact Bool.false_ne_true

/-- The reads a completed step makes before its data accesses: the opcode, the operand bytes, the pointer. -/
def fetchAccesses (m : Mode) (s : State) : List Access :=
  .read s.pc :: (operandAccesses m s ++ pointerAccesses m s)

theorem completedAccesses_eq (d : Descriptor) (s u : State) :
    completedAccesses d s u = fetchAccesses d.mode s ++ dataAccesses d s u := rfl

theorem isRead_of_mem_fetchAccesses {m : Mode} {s : State} {x : Access} (h : x ∈ fetchAccesses m s) : ∃ a, x = .read a := by
  rw [fetchAccesses, List.mem_cons, List.mem_append] at h
  rcases h with rfl | h | h
  · exact ⟨_, rfl⟩
  · exact isRead_of_mem_operandAccesses h
  · exact isRead_of_mem_pointerAccesses h

theorem fetchAccesses_length (m : Mode) (s : State) :
    (fetchAccesses m s).length = 1 + m.operandBytes + pointerReads m := by
  rw [fetchAccesses, List.length_cons, List.length_append, operandAccesses_length, pointerAccesses_length]
  omega

/-- The opcode byte is operand byte 0. -/
theorem read_pc_cons_operandAccesses (m : Mode) (s : State) : .read s.pc :: operandAccesses m s =
    (List.range (1 + m.operandBytes)).map fun k => Access.read (s.pc + BitVec.ofNat 16 k) := by
  rw [Nat.add_comm, List.range_succ_eq_map, List.map_cons, List.map_map]
  exact congrArg (fun p => Access.read p :: operandAccesses m s) (BitVec.add_zero s.pc).symm

/-! ### Counts and order -/

theorem completedAccesses_counts (i : Instr) (s u : State) :
    readCount (completedAccesses i.descriptor s u) =
        1 + i.entry.mode.operandBytes + pointerReads i.entry.mode + dataReads i.descriptor ∧
      writeCount (completedAccesses i.descriptor s u) = dataWrites i.descriptor := by
  obtain ⟨hreads, hwrites⟩ := dataAccesses_counts i s u
  rw [completedAccesses_eq]
  have hfetch := fun x (hx : x ∈ fetchAccesses i.entry.mode s) => isRead_of_mem_fetchAccesses hx
  constructor
  · rw [← hreads, ← fetchAccesses_length i.entry.mode s, ← readCount_of_reads hfetch]
    exact List.countP_append
  · rw [← hwrites, ← Nat.zero_add (writeCount (dataAccesses _ s u)), ← writeCount_of_reads hfetch]
    exact List.countP_append

theorem completedAccesses_eq_range (d : Descriptor) (s u : State) : completedAccesses d s u =
    (List.range (1 + d.mode.operandBytes)).map (fun k => Access.read (s.pc + BitVec.ofNat 16 k)) ++
      (pointerAccesses d.mode s ++ dataAccesses d s u) := by
  rw [← read_pc_cons_operandAccesses, completedAccesses, List.cons_append, List.append_assoc]

theorem completedAccesses_getElem? (d : Descriptor) (s u : State) {k : Nat} (hk : k ≤ d.mode.operandBytes) :
    (completedAccesses d s u)[k]? = some (.read (s.pc + BitVec.ofNat 16 k)) := by
  have hlt : k < 1 + d.mode.operandBytes := by omega
  rw [completedAccesses_eq_range, List.getElem?_append_left (by simpa using hlt), List.getElem?_map,
    List.getElem?_range hlt, Option.map_some]

theorem completedAccesses_pointer (d : Descriptor) (s u : State) :
    ((completedAccesses d s u).drop (1 + d.mode.operandBytes)).take (pointerReads d.mode) = pointerAccesses d.mode s := by
  rw [completedAccesses_eq_range, List.drop_left' (by simp), List.take_left' (pointerAccesses_length d.mode s)]

theorem completedAccesses_data (d : Descriptor) (s u : State) :
    (completedAccesses d s u).drop (1 + d.mode.operandBytes + pointerReads d.mode) = dataAccesses d s u := by
  rw [completedAccesses_eq, List.drop_left' (fetchAccesses_length d.mode s)]

/-- Settles O27: a fault's report has the opcode read alone; a completed one has the fetch accesses and the data accesses. -/
theorem accessCountsAreThoseOfTheTable : Obligations.AccessCountsAreThoseOfTheTable := by
  refine ⟨fun s => ?first, fun s f h => ?fault, fun s d hd hc => ?completed⟩
  case first =>
    cases stepShape s with
    | unknown _ _ hseq | decodeOnly _ _ _ _ hseq | completes _ _ _ _ _ _ hseq => rw [hseq]; rfl
  case fault =>
    cases stepShape s with
    | unknown _ _ hseq | decodeOnly _ _ _ _ hseq => rw [hseq]
    | completes i u _ _ _ hstep _ => exact (next_ne_fault (hstep.symm.trans h)).elim
  case completed =>
    cases stepShape s with
    | unknown hnone _ _ => cases hnone.symm.trans hd
    | decodeOnly d' hd' hc' _ _ =>
      cases hd'.symm.trans hd
      cases hc'.symm.trans hc
    | completes i u hi _ _ _ hseq =>
      cases hi.symm.trans hd
      rw [hseq]
      obtain ⟨hreads, hwrites⟩ := completedAccesses_counts i s u
      refine ⟨hreads, hwrites, fun k hk => completedAccesses_getElem? _ s u hk, completedAccesses_pointer _ s u, fun ea hea => ?_⟩
      rw [completedAccesses_data, dataAccesses_eq_replicate hea, afterExecute_read]

/-! ### Bounds -/

theorem readCount_add_writeCount (l : List Access) : readCount l + writeCount l = l.length := by
  rw [List.length_eq_countP_add_countP fun | .read _ => true | .write _ _ => false, readCount, writeCount]
  congr 2
  funext x
  cases x <;> rfl

/-- The row of R146 and the column of the operation make five accesses at most (R340). -/
theorem tableAccesses_le_five (i : Instr) : 1 + i.entry.mode.operandBytes + pointerReads i.entry.mode +
    dataReads i.descriptor + dataWrites i.descriptor ≤ 5 := by
  cases i <;> exact of_decide_eq_true rfl

theorem length_bounds (i : Instr) : 1 ≤ i.length ∧ i.length ≤ 3 := by
  have := i.entry.mode.operandBytes_le_two
  rw [Instr.length]
  omega

theorem cycles_bounds (i : Instr) : 2 ≤ i.cycles ∧ i.cycles ≤ 7 := by
  cases i <;> exact of_decide_eq_true rfl

theorem completedAccesses_length_le_five (i : Instr) (s u : State) : (completedAccesses i.descriptor s u).length ≤ 5 := by
  obtain ⟨hreads, hwrites⟩ := completedAccesses_counts i s u
  have := tableAccesses_le_five i
  rw [← readCount_add_writeCount, hreads, hwrites]
  exact this

/-- Settles O20: the bounds of the table, and one access for a fault. -/
theorem lengthCostAndAccessesAreBounded : Obligations.LengthCostAndAccessesAreBounded := by
  refine ⟨fun i => and_assoc.mp ⟨length_bounds i, cycles_bounds i⟩, fun s => ?_⟩
  cases stepShape s with
  | unknown _ _ hseq | decodeOnly _ _ _ _ hseq =>
    rw [hseq]
    exact ⟨le_refl 1, Nat.le_add_left 1 4⟩
  | completes i u _ _ _ _ hseq =>
    rw [hseq]
    exact ⟨Nat.succ_pos _, completedAccesses_length_le_five i s u⟩

/-! ### What an operation does to storage -/

/-- What executing an operation on a resolved operand does to storage: nothing, or one write at the operand's address by an
operation that the table lets write there. -/
inductive StorageEffect (op : Op) (o : Operand) (s u : State) : Prop
  | kept (hop : writesOperand op = false ∨ o = .regA) (hmem : u.mem = s.mem)
  | stored (ea : Addr) (v : Byte) (hop : writesOperand op = true) (ho : o = .addr ea)
      (hmem : u.mem = s.mem.write ea.toNat v)

theorem of_onValue {f : Byte → State → State} {o : Operand} {s u : State} (h : onValue f o s = some u) :
    ∃ ea, o = .addr ea ∧ u = f (s.read ea) s := by
  cases o with
  | addr ea => exact ⟨ea, rfl, (Option.some.inj h).symm⟩
  | none | regA => cases h

theorem of_onAddr {f : Addr → State → State} {o : Operand} {s u : State} (h : onAddr f o s = some u) :
    ∃ ea, o = .addr ea ∧ u = f ea s := by
  cases o with
  | addr ea => exact ⟨ea, rfl, (Option.some.inj h).symm⟩
  | none | regA => cases h

theorem of_onImplied {f : State → State} {o : Operand} {s u : State} (h : onImplied f o s = some u) : u = f s := by
  cases o with
  | none => exact (Option.some.inj h).symm
  | addr ea | regA => cases h

theorem opBranch_mem (taken : Bool) (rel8 : Byte) (s : State) : (opBranch taken rel8 s).mem = s.mem := by
  rw [opBranch_eq]

theorem execute_storage {op : Op} {o : Operand} {s u : State} (h : execute op o s = some u) : StorageEffect op o s u := by
  cases op
  case lda | ldx | ldy | adc | and | bit | cmp | cpx | cpy =>
    obtain ⟨ea, rfl, rfl⟩ := of_onValue h
    exact .kept (.inl rfl) rfl
  case bpl | bmi | bvc | bvs | bcc | bcs | bne | beq =>
    obtain ⟨ea, rfl, rfl⟩ := of_onValue h
    exact .kept (.inl rfl) (opBranch_mem _ _ _)
  case sta | stx | sty | inc | dec =>
    obtain ⟨ea, rfl, rfl⟩ := of_onAddr h
    exact .stored ea _ rfl rfl rfl
  case jmp =>
    obtain ⟨ea, rfl, rfl⟩ := of_onAddr h
    exact .kept (.inl rfl) rfl
  case inx | iny | dex | dey =>
    obtain rfl := of_onImplied h
    exact .kept (.inl rfl) rfl
  case asl =>
    cases o with
    | none => cases h
    | regA =>
      cases h
      exact .kept (.inr rfl) rfl
    | addr ea =>
      cases h
      exact .stored ea _ rfl rfl rfl
  all_goals cases h

/-! ### Replaying the writes -/

theorem replayWrites_append (l l' : List Access) (m : Memory) :
    replayWrites (l ++ l') m = replayWrites l' (replayWrites l m) := by
  induction l generalizing m with
  | nil => rfl
  | cons x l ih =>
    cases x with
    | read a => exact ih m
    | write a v => exact ih (m.write a.toNat v)

theorem replayWrites_of_reads {l : List Access} (h : ∀ x ∈ l, ∃ a, x = .read a) (m : Memory) : replayWrites l m = m := by
  induction l with
  | nil => rfl
  | cons x l ih =>
    obtain ⟨a, rfl⟩ := h x List.mem_cons_self
    exact ih fun y hy => h y (List.mem_cons_of_mem _ hy)

theorem replayWrites_dataAccesses {i : Instr} {s u : State} (h : StorageEffect i.entry.op (resolve i.entry.mode s) s u) :
    replayWrites (dataAccesses i.descriptor s u) s.mem = u.mem := by
  cases hr : resolve i.entry.mode s with
  | none | regA =>
    rw [dataAccesses_of_no_addr (d := i.descriptor) (by simp [Instr.descriptor, hr])]
    cases h with
    | kept _ hmem => exact hmem.symm
    | stored ea v _ ho _ => cases hr.symm.trans ho
  | addr ea =>
    rw [dataAccesses_eq_replicate hr, replayWrites_append,
      replayWrites_of_reads fun x hx => ⟨ea, List.eq_of_mem_replicate hx⟩, dataWrites_of_addr hr]
    cases h with
    | kept hop hmem =>
      have hno : writesOperand i.entry.op = false := hop.resolve_right (by simp [hr])
      rw [hno, hmem]
      rfl
    | stored ea' v hop ho hmem =>
      cases hr.symm.trans ho
      have hread : u.read ea = v := by rw [State.read, hmem, Memory.read_write_same]
      rw [hop, hread, hmem]
      rfl

/-- Settles O28: the fetch accesses are reads, and the data accesses write what the operation wrote. -/
theorem writesAtThePortAccountForMemory : Obligations.WritesAtThePortAccountForMemory := by
  intro s
  cases stepShape s with
  | unknown _ hstep hseq | decodeOnly _ _ _ hstep hseq =>
    rw [hseq, afterStep_of_fault hstep]
    rfl
  | completes i u _ _ hu hstep hseq =>
    rw [hseq, afterStep_of_next hstep, afterExecute_mem, completedAccesses_eq, replayWrites_append,
      replayWrites_of_reads fun x hx => isRead_of_mem_fetchAccesses hx]
    exact (replayWrites_dataAccesses (s := s.fetchIr) (execute_storage hu)).symm

/-! ### A store is seen by the next fetch -/

/-- The write recorded is of the byte the operation left. -/
theorem read_of_write_mem_dataAccesses {i : Instr} {s after : State} {p : Addr} {v : Byte}
    (h : Access.write p v ∈ dataAccesses i.descriptor s after) : after.read p = v := by
  cases hr : resolve i.entry.mode s with
  | none | regA =>
    rw [dataAccesses_of_no_addr (d := i.descriptor) (by simp [Instr.descriptor, hr])] at h
    cases h
  | addr ea =>
    rw [dataAccesses_eq_replicate hr, List.mem_append] at h
    rcases h with h | h
    · cases List.eq_of_mem_replicate h
    · obtain ⟨rfl, rfl⟩ := Access.write.inj (List.eq_of_mem_replicate h)
      rfl

/-- A recorded write is a data access, since the fetch accesses are reads. -/
theorem read_of_write_mem_completedAccesses {i : Instr} {s u : State} {p : Addr} {v : Byte}
    (h : Access.write p v ∈ completedAccesses i.descriptor s u) : u.read p = v := by
  rw [completedAccesses_eq, List.mem_append] at h
  rcases h with h | h
  · obtain ⟨a, ha⟩ := isRead_of_mem_fetchAccesses h
    cases ha
  · exact read_of_write_mem_dataAccesses h

/-- No operation writes IR. -/
theorem Effect.ir_eq {s u : State} (h : Effect s u) : u.ir = s.ir := by
  cases h <;> rfl

theorem exec_ir {i : Instr} {s t : State} (h : exec i s = .next t) : t.ir = s.ir := by
  obtain ⟨-, u, hu, rfl⟩ := exec_next h
  rw [afterExecute_ir, hu.ir_eq]

/-- Every step leaves the byte at PC in IR, faulting or not (10_state.md R26). -/
theorem afterStep_ir (s : State) : s.afterStep.ir = s.read s.pc := by
  cases stepShape s with
  | unknown _ hstep _ | decodeOnly _ _ _ hstep _ =>
    rw [afterStep_of_fault hstep, State.fetchIr_ir, State.operandByte_zero]
  | completes i u _ _ _ hstep _ =>
    obtain ⟨j, -, hexec⟩ := step_next hstep
    rw [afterStep_of_next hstep, exec_ir hexec, State.fetchIr_ir, State.operandByte_zero]

/-- Settles O29: the recorded write is of the byte the step leaves, which the next fetch reads at PC. -/
theorem fetchSeesTheStoreOfTheStepBefore : Obligations.FetchSeesTheStoreOfTheStepBefore := by
  intro s t p v h hmem
  have hread : t.read p = v := by
    cases stepShape s with
    | unknown _ hstep _ | decodeOnly _ _ _ hstep _ => exact (fault_ne_next (hstep.symm.trans h)).elim
    | completes i u _ _ _ hstep hseq =>
      rw [hseq] at hmem
      rw [← Host.Outcome.next.inj (hstep.symm.trans h), afterExecute_read]
      exact read_of_write_mem_completedAccesses hmem
  refine ⟨hread, ?_⟩
  rintro rfl
  exact ⟨(afterStep_ir t).trans hread, by rw [State.fetchDecode, State.operandByte_zero, hread]; rfl⟩

end Sys2Proof.Machine
end

section
/-! PROOF. What completed instructions leave unchanged (10_state.md rules R20, R41, 20_memory.md R51), and the invariant of the
core (10_state.md R43), and that no step reads IR, CYC or the inert flags (R26, R30 to R32, R36). The frame of a completed
instruction is that of its operation, since completing writes PC and CYC alone. -/

namespace Sys2Proof.Machine

theorem eq_afterExecute_of_complete {i : Instr} {u t : State} (h : complete i u = .next t) :
    t = afterExecute i.descriptor u :=
  (Host.Outcome.next.inj h).symm

/-! ### Registers -/

/-- The registers a completed instruction may have written, as the inventory names them (10_state.md R20). -/
structure RegisterFrame (i : Instr) (s t : State) : Prop where
  a : i.entry.op ∉ [Op.lda, Op.adc, Op.and] → i.entry ≠ ⟨.asl, .acc⟩ → t.a = s.a
  x : i.entry.op ∉ [Op.ldx, Op.inx, Op.dex] → t.x = s.x
  y : i.entry.op ∉ [Op.ldy, Op.iny, Op.dey] → t.y = s.y

/-- Completing an instruction writes neither A nor X nor Y. -/
theorem RegisterFrame.of_complete {i : Instr} {s u t : State} (h : complete i u = .next t) (hu : RegisterFrame i s u) :
    RegisterFrame i s t := by
  rw [eq_afterExecute_of_complete h]
  exact ⟨fun hop hacc => (afterExecute_a _ u).trans (hu.a hop hacc), fun hop => (afterExecute_x _ u).trans (hu.x hop),
    fun hop => (afterExecute_y _ u).trans (hu.y hop)⟩

theorem opBranch_registers (i : Instr) (taken : Bool) (rel8 : Byte) (s : State) :
    RegisterFrame i s (opBranch taken rel8 s) := by
  rw [opBranch_eq]
  exact ⟨fun _ _ => rfl, fun _ => rfl, fun _ => rfl⟩

theorem exec_registers {i : Instr} {s t : State} (h : exec i s = .next t) : RegisterFrame i s t := by
  cases i
  case ldaImm | ldaZp | ldaZpx | ldaAbs | ldaAbx | ldaAby | ldaIzx | ldaIzy | adcImm | adcZp | adcZpx | adcAbs | adcAbx
      | adcAby | adcIzx | adcIzy | andImm | andZp | andZpx | andAbs | andAbx | andAby | andIzx | andIzy =>
    exact .of_complete h ⟨fun hop => (hop (of_decide_eq_true rfl)).elim, fun _ => rfl, fun _ => rfl⟩
  case aslAcc =>
    exact .of_complete h ⟨fun _ hacc => (hacc rfl).elim, fun _ => rfl, fun _ => rfl⟩
  case ldxImm | ldxZp | ldxZpy | ldxAbs | ldxAby | inx | dex =>
    exact .of_complete h ⟨fun _ _ => rfl, fun hop => (hop (of_decide_eq_true rfl)).elim, fun _ => rfl⟩
  case ldyImm | ldyZp | ldyZpx | ldyAbs | ldyAbx | iny | dey =>
    exact .of_complete h ⟨fun _ _ => rfl, fun _ => rfl, fun hop => (hop (of_decide_eq_true rfl)).elim⟩
  case bpl | bmi | bvc | bvs | bcc | bcs | bne | beq =>
    exact .of_complete h (opBranch_registers _ _ _ s)
  case staZp | staZpx | staAbs | staAbx | staAby | staIzx | staIzy | stxZp | stxZpy | stxAbs | styZp | styZpx | styAbs
      | bitZp | bitAbs | aslZp | aslZpx | aslAbs | aslAbx | incZp | incZpx | incAbs | incAbx | decZp | decZpx | decAbs
      | decAbx | cmpImm | cmpZp | cmpZpx | cmpAbs | cmpAbx | cmpAby | cmpIzx | cmpIzy | cpxImm | cpxZp | cpxAbs | cpyImm
      | cpyZp | cpyAbs | jmpAbs | jmpInd =>
    exact .of_complete h ⟨fun _ _ => rfl, fun _ => rfl, fun _ => rfl⟩
  all_goals exact (fault_ne_next h).elim

/-- No operation moves the loader's cursor. -/
theorem Effect.cursor_eq {s u : State} (h : Effect s u) : u.cursor = s.cursor := by
  cases h <;> rfl

theorem exec_cursor {i : Instr} {s t : State} (h : exec i s = .next t) : t.cursor = s.cursor := by
  obtain ⟨-, u, hu, rfl⟩ := exec_next h
  rw [afterExecute_cursor, hu.cursor_eq]

/-- Settles O22: the three registers by the operation, IR and the cursor in any case. -/
theorem registersChangeOnlyAsTheInventorySays : Obligations.RegistersChangeOnlyAsTheInventorySays := by
  intro i s t h
  obtain ⟨ha, hx, hy⟩ := exec_registers h
  exact ⟨ha, hx, hy, exec_ir h, exec_cursor h⟩

/-! ### Storage -/

theorem read_of_complete {i : Instr} {u t : State} (h : complete i u = .next t) (p : Addr) : t.read p = u.read p := by
  rw [eq_afterExecute_of_complete h, afterExecute_read]

/-- Completing after a write: another address reads as in the state written to. -/
theorem read_of_complete_write {i : Instr} {u t : State} {ea p : Addr} {v : Byte}
    (h : complete i (u.write ea v) = .next t) (hp : some ea ≠ some p) : t.read p = u.read p := by
  rw [read_of_complete h, State.read_write_ne u v fun heq => hp (congrArg some heq.symm)]

theorem opBranch_read (taken : Bool) (rel8 : Byte) (s : State) (p : Addr) : (opBranch taken rel8 s).read p = s.read p := by
  rw [opBranch_eq]
  rfl

/-- Settles O23: a form that stores ends in one write at its store address, the others write no storage. -/
theorem memoryChangesOnlyAtTheStoreAddress : Obligations.MemoryChangesOnlyAtTheStoreAddress := by
  intro i s t h p hp
  cases i
  case staZp | staZpx | staAbs | staAbx | staAby | staIzx | staIzy | stxZp | stxZpy | stxAbs | styZp | styZpx | styAbs
      | incZp | incZpx | incAbs | incAbx | decZp | decZpx | decAbs | decAbx =>
    exact read_of_complete_write h hp
  case aslZp | aslZpx | aslAbs | aslAbx =>
    exact (read_of_complete_write h hp).trans (State.setFlags_read s _ p)
  case bpl | bmi | bvc | bvs | bcc | bcs | bne | beq =>
    exact (read_of_complete h p).trans (opBranch_read _ _ s p)
  case ldaImm | ldaZp | ldaZpx | ldaAbs | ldaAbx | ldaAby | ldaIzx | ldaIzy | ldxImm | ldxZp | ldxZpy | ldxAbs | ldxAby
      | ldyImm | ldyZp | ldyZpx | ldyAbs | ldyAbx | adcImm | adcZp | adcZpx | adcAbs | adcAbx | adcAby | adcIzx | adcIzy
      | andImm | andZp | andZpx | andAbs | andAbx | andAby | andIzx | andIzy | bitZp | bitAbs | aslAcc | inx | iny | dex
      | dey | cmpImm | cmpZp | cmpZpx | cmpAbs | cmpAbx | cmpAby | cmpIzx | cmpIzy | cpxImm | cpxZp | cpxAbs | cpyImm
      | cpyZp | cpyAbs | jmpAbs | jmpInd =>
    exact read_of_complete h p
  all_goals exact (fault_ne_next h).elim

/-! ### The invariant of the core -/

/-- The invariant speaks of the three inert flags and of storage alone. -/
theorem CoreInv.congr {s t : State} (h : CoreInv s) (hb : t.flags.b = s.flags.b) (hd : t.flags.d = s.flags.d)
    (hi : t.flags.i = s.flags.i) (hwf : t.mem.wf = true) : CoreInv t := by
  obtain ⟨⟨hb0, hd0, hi0⟩, -⟩ := h
  exact ⟨⟨hb.trans hb0, hd.trans hd0, hi.trans hi0⟩, hwf⟩

theorem CoreInv.write {s : State} (h : CoreInv s) (p : Addr) (v : Byte) : CoreInv (s.write p v) :=
  h.congr rfl rfl rfl (s.write_wf p v h.2)

/-- Nothing an operation can do breaks the invariant. -/
theorem CoreInv.effect {s u : State} (h : CoreInv s) (he : Effect s u) : CoreInv u := by
  cases he with
  | nothing | setA | setX | setY | setPc => exact h.congr rfl rfl rfl h.2
  | setFlags f hb hd hi | setFlagsA f v hb hd hi => exact h.congr hb hd hi h.2
  | write p v => exact h.write p v
  | writeFlags f p v hb hd hi => exact h.congr hb hd hi ((s.setFlags f).write_wf p v h.2)

theorem CoreInv.afterExecute {s : State} (h : CoreInv s) (d : Descriptor) : CoreInv (afterExecute d s) :=
  h.congr (by rw [afterExecute_flags]) (by rw [afterExecute_flags]) (by rw [afterExecute_flags])
    (by rw [afterExecute_mem]; exact h.2)

theorem CoreInv.fetchIr {s : State} (h : CoreInv s) : CoreInv s.fetchIr :=
  h.congr rfl rfl rfl h.2

theorem CoreInv.step {s t : State} (h : CoreInv s) (hstep : step s = .next t) : CoreInv t := by
  obtain ⟨i, -, hexec⟩ := step_next hstep
  obtain ⟨-, u, hu, rfl⟩ := exec_next hexec
  exact (h.fetchIr.effect hu).afterExecute i.descriptor

theorem CoreInv.afterStep {s : State} (h : CoreInv s) : CoreInv s.afterStep := by
  cases stepShape s with
  | unknown _ hstep _ | decodeOnly _ _ _ hstep _ =>
    rw [afterStep_of_fault hstep]
    exact h.fetchIr
  | completes i u _ _ _ hstep _ =>
    rw [afterStep_of_next hstep]
    exact h.step hstep

theorem CoreInv.writeBytes {s : State} (h : CoreInv s) (a : Addr) (bytes : List Byte) : CoreInv (s.writeBytes a bytes) := by
  induction bytes generalizing s a with
  | nil => exact h
  | cons v rest ih => exact ih (h.write a v) (a + 1)

theorem CoreInv.resetWith {s : State} (hwf : s.mem.wf = true) (ia ix iy : Byte) : CoreInv (s.resetWith ia ix iy) :=
  ⟨⟨rfl, rfl, rfl⟩, hwf⟩

/-! The two outcomes of loading a program (20_memory.md R71, decision D19). -/

theorem apply_loadSequential_of_le {s : State} {bytes : List Byte} (h : s.cursor.toNat + bytes.length ≤ 0xFFFF) :
    (HostMove.loadSequential bytes).apply s =
      (.done, (s.writeBytes s.cursor bytes).setCursor (s.cursor + BitVec.ofNat 16 bytes.length)) := by
  simp only [HostMove.apply, State.loadSequential, if_pos h]

theorem apply_loadSequential_of_gt {s : State} {bytes : List Byte} (h : 0xFFFF < s.cursor.toNat + bytes.length) :
    (HostMove.loadSequential bytes).apply s = (.refused (.loadPastTop s.cursor bytes.length), s) := by
  simp only [HostMove.apply, State.loadSequential, if_neg h.not_ge]

theorem CoreInv.apply {s : State} (h : CoreInv s) (m : HostMove) : CoreInv (m.apply s).2 := by
  cases m with
  | reset ia ix iy => exact .resetWith h.2 ia ix iy
  | step => exact h.afterStep
  | read a => exact h
  | write a v => exact h.write a v
  | loadSequential bytes =>
    rcases le_or_gt (s.cursor.toNat + bytes.length) 0xFFFF with hle | hgt
    · rw [apply_loadSequential_of_le hle]
      exact (h.writeBytes s.cursor bytes).congr rfl rfl rfl (h.writeBytes s.cursor bytes).2
    · rw [apply_loadSequential_of_gt hgt]
      exact h

/-- Settles O24: the invariant is kept by what an operation can do, by fetching IR and by each move of the host. -/
theorem everyMoveKeepsTheCoreInvariant : Obligations.EveryMoveKeepsTheCoreInvariant :=
  ⟨fun _ _ h hstep => h.step hstep, fun _ m h => h.apply m⟩

/-- Settles O25: the canonical memory of any contents, under cleared flags. -/
theorem coreInvariantHoldsAtLaunch : Obligations.CoreInvariantHoldsAtLaunch :=
  ⟨⟨⟨rfl, rfl, rfl⟩, State.reset_wf⟩, fun ia ix iy memInit => .resetWith (Memory.ofFn_wf memInit) ia ix iy⟩

/-! ### Registers nothing reads -/

theorem opBranch_withUnread (taken : Bool) (rel8 : Byte) (s : State) (ir : Byte) (cyc : CycleCount) (b d i : Bool) :
    opBranch taken rel8 (s.withUnread ir cyc b d i) = (opBranch taken rel8 s).withUnread ir cyc b d i := by
  cases taken <;> rfl

/-- Completing adds the base cycles to the replaced CYC and keeps the other replaced registers. -/
theorem complete_withUnread {j : Instr} {u t : State} (h : complete j u = .next t) (ir : Byte) (cyc : CycleCount)
    (b d i : Bool) : complete j (u.withUnread ir cyc b d i) =
      .next (t.withUnread ir (cyc + BitVec.ofNat 64 j.cycles) b d i) := by
  rw [← Host.Outcome.next.inj h]
  by_cases hjmp : j.entry.op = .jmp
  · rw [complete_of_jmp hjmp, if_pos hjmp]
    rfl
  · rw [complete_of_not_jmp hjmp, if_neg hjmp]
    rfl

/-- A meaning that completes does the same to the other registers and to storage when the unread ones are replaced: every
operation but a branch reads none of them, and a branch tests N, V, Z or C. -/
theorem exec_withUnread {j : Instr} {s t : State} (h : exec j s = .next t) (ir : Byte) (cyc : CycleCount) (b d i : Bool) :
    exec j (s.withUnread ir cyc b d i) = .next (t.withUnread ir (cyc + BitVec.ofNat 64 j.cycles) b d i) := by
  cases j
  case bpl | bmi | bvc | bvs | bcc | bcs | bne | beq =>
    exact (congrArg (complete _) (opBranch_withUnread _ _ s ir cyc b d i)).trans (complete_withUnread h ir cyc b d i)
  case ldaImm | ldaZp | ldaZpx | ldaAbs | ldaAbx | ldaAby | ldaIzx | ldaIzy | ldxImm | ldxZp | ldxZpy | ldxAbs | ldxAby
      | ldyImm | ldyZp | ldyZpx | ldyAbs | ldyAbx | staZp | staZpx | staAbs | staAbx | staAby | staIzx | staIzy | stxZp
      | stxZpy | stxAbs | styZp | styZpx | styAbs | adcImm | adcZp | adcZpx | adcAbs | adcAbx | adcAby | adcIzx | adcIzy
      | andImm | andZp | andZpx | andAbs | andAbx | andAby | andIzx | andIzy | bitZp | bitAbs | aslAcc | aslZp | aslZpx
      | aslAbs | aslAbx | incZp | incZpx | incAbs | incAbx | decZp | decZpx | decAbs | decAbx | inx | iny | dex | dey
      | cmpImm | cmpZp | cmpZpx | cmpAbs | cmpAbx | cmpAby | cmpIzx | cmpIzy | cpxImm | cpxZp | cpxAbs | cpyImm | cpyZp
      | cpyAbs | jmpAbs | jmpInd =>
    exact complete_withUnread h ir cyc b d i
  all_goals exact (fault_ne_next h).elim

/-- Fetching IR writes the same byte over the replaced IR. -/
theorem fetchIr_withUnread (s : State) (ir : Byte) (cyc : CycleCount) (b d i : Bool) :
    (s.withUnread ir cyc b d i).fetchIr = s.fetchIr.withUnread s.fetchIr.ir cyc b d i := rfl

/-- Settles O26: a completed step runs the same meaning from the replaced registers; a fault depends on PC and the byte there. -/
theorem unreadRegistersNeverInfluenceAStep : Obligations.UnreadRegistersNeverInfluenceAStep := by
  intro s ir cyc b d i
  refine ⟨fun t h => ?_, fun f h => step_fault_congr (s := s) rfl rfl h⟩
  obtain ⟨j, hj, hexec⟩ := step_next h
  have hcyc : t.cyc - s.cyc = BitVec.ofNat 64 j.cycles := by
    rw [exec_cyc hexec, State.fetchIr_cyc, add_sub_cancel_left]
  rw [step_of_fetchDecode (s := s.withUnread ir cyc b d i) hj, fetchIr_withUnread, hcyc, exec_ir hexec]
  exact exec_withUnread hexec _ cyc b d i

end Sys2Proof.Machine
end

section
/-! PROOF. ADC, INC, DEC and the index registers, the order of a compare, the remaining modes and the displacement of a branch, in
plain arithmetic (42_arith_logic.md R180, 43_shift_incdec.md R201 to R206, 44_compare.md R220, 40_step_and_addressing.md R130 to
R142, 30_encoding.md R99). -/

namespace Sys2Proof.Machine

/-! ### ADC -/

theorem adcSum_lt (a0 m : Byte) : adcSum a0 m < 512 := by
  have := a0.isLt
  have := m.isLt
  rw [adcSum]
  omega

theorem adcResult_toNat (a0 m : Byte) : (adcResult a0 m).toNat = adcSum a0 m % 256 :=
  BitVec.toNat_ofNat _ 8

theorem adcResult_eq_ofNat_mod (a0 m : Byte) : adcResult a0 m = BitVec.ofNat 8 (adcSum a0 m % 256) := by
  rw [← adcResult_toNat, BitVec.ofNat_toNat, BitVec.setWidth_eq]

theorem adcCarry_eq_decide (a0 m : Byte) : adcCarry a0 m = decide (256 ≤ adcSum a0 m) := by
  have := adcSum_lt a0 m
  rw [adcCarry, Nat.testBit_eq_decide_div_mod_eq, decide_eq_decide]
  omega

/-- V: the operands share a sign bit that the result does not (R180). -/
theorem adcOverflow_eq_decide (a0 m : Byte) : adcOverflow a0 m =
    decide ((128 ≤ a0.toNat ↔ 128 ≤ m.toNat) ∧ ¬ (128 ≤ adcSum a0 m % 256 ↔ 128 ≤ a0.toNat)) := by
  rw [adcOverflow, BitVec.getLsbD_and, BitVec.getLsbD_xor, BitVec.getLsbD_xor, getLsbD_seven_eq_decide,
    getLsbD_seven_eq_decide, getLsbD_seven_eq_decide, adcResult_toNat]
  by_cases ha : 128 ≤ a0.toNat <;> by_cases hm : 128 ≤ m.toNat <;> by_cases hr : 128 ≤ adcSum a0 m % 256 <;> simp [ha, hm, hr]

theorem opAdc_eq_afterAdd (m : Byte) (s : State) : opAdc m s = s.afterAdd m := by
  rw [opAdc, Flags.adc, isNegative_eq_decide, isZero_eq_decide_toNat, adcOverflow_eq_decide, adcCarry_eq_decide, adcResult_toNat,
    adcResult_eq_ofNat_mod]
  rfl

/-- Settles O41: each form completes after the operation, with the byte at the address the calculator gives. -/
theorem adcAddsTwoTermsAndSetsNvzc : Obligations.AdcAddsTwoTermsAndSetsNvzc := by
  intro s imm8 zp8 addr16
  rw [natZp_eq_toNat_eaZp, natZpx_eq_toNat_eaZpx, natAbs_eq_toNat_eaAbs, natAbx_eq_toNat_eaAbx, natAby_eq_toNat_eaAby,
    natIzx_eq_toNat_eaIzx, natIzy_eq_toNat_eaIzy]
  simp only [← opAdc_eq_afterAdd]
  refine ⟨?imm, ?zp, ?zpx, ?abs, ?abx, ?aby, ?izx, ?izy⟩
  all_goals exact .of_complete rfl nofun rfl rfl rfl rfl

/-- The signed value of a byte, by its sign bit. -/
theorem toInt_eq_ite (v : Byte) : v.toInt = if 128 ≤ v.toNat then (v.toNat : Int) - 256 else v.toNat := by
  rw [BitVec.toInt_eq_toNat_cond]
  split <;> split <;> omega

/-- Settles O42: operands of different signs cannot overflow, and of one sign they do when the result has the other. -/
theorem adcOverflowIsSignedRangeOverflow : Obligations.AdcOverflowIsSignedRangeOverflow := by
  intro f a0 m
  have := a0.isLt
  have := m.isLt
  rw [Flags.adc_v, adcOverflow_eq_decide, decide_eq_true_iff, toInt_eq_ite, toInt_eq_ite, adcSum]
  split <;> split <;> omega

/-! ### INC, DEC and the index registers -/

theorem add_one_eq_ofNat (v : Byte) : v + 1 = BitVec.ofNat 8 (v.toNat + 1) := by
  rw [BitVec.ofNat_add, BitVec.ofNat_toNat, BitVec.setWidth_eq]
  rfl

/-- Taking 1 away is adding 255 modulo 256. -/
theorem sub_one_eq_ofNat (v : Byte) : v - 1 = BitVec.ofNat 8 (v.toNat + 255) := by
  rw [BitVec.ofNat_add, BitVec.ofNat_toNat, BitVec.setWidth_eq]
  exact sub_eq_add_neg v 1

/-- Settles O46: each form completes after the one write of the byte changed by 1. -/
theorem incAndDecChangeOneByteAndNoFlag : Obligations.IncAndDecChangeOneByteAndNoFlag := by
  intro s zp8 addr16
  simp only [← add_one_eq_ofNat, ← sub_one_eq_ofNat]
  refine ⟨?incZp, ?incZpx, ?incAbs, ?incAbx, ?decZp, ?decZpx, ?decAbs, ?decAbx⟩
  all_goals exact .of_complete_write rfl nofun rfl rfl rfl rfl rfl

/-- Settles O47: each completes after writing its register. -/
theorem indexIncrementsAndDecrementsWrapAndWriteNoFlag :
    Obligations.IndexIncrementsAndDecrementsWrapAndWriteNoFlag := by
  intro s
  simp only [← add_one_eq_ofNat, ← sub_one_eq_ofNat]
  refine ⟨?inx, ?iny, ?dex, ?dey⟩
  all_goals exact .of_complete rfl nofun rfl rfl rfl rfl

/-! ### The order of a compare -/

/-- Settles O49: the flags compare the numbers, and equal numbers have difference 0. -/
theorem compareFlagsFollowTheUnsignedOrder : Obligations.CompareFlagsFollowTheUnsignedOrder := by
  intro f r m
  rw [Flags.compare_eq_afterCompare, ge_iff_le, BitVec.le_def]
  simp only [Flags.afterCompare, decide_eq_true_iff, decide_eq_false_iff_not, ← BitVec.toNat_inj]
  refine ⟨fun heq => ⟨heq.ge, ?_⟩, fun hlt => by omega, trivial, trivial⟩
  rw [heq]
  omega

/-! ### The remaining modes -/

/-- Settles O34: each mode's address is the calculator's, whose value in plain arithmetic is known. -/
theorem otherModesResolveAsTheirRulesSay : Obligations.OtherModesResolveAsTheirRulesSay := by
  intro s
  refine ⟨rfl, rfl, rfl, rfl, ⟨_, rfl, ?zp⟩, ⟨_, rfl, ?zpy⟩, ⟨_, rfl, ?abx⟩, ⟨_, rfl, ?aby⟩, word16_toNat _ _,
    ⟨_, _, _, rfl, ?ind, rfl, rfl, BitVec.toNat_add _ _⟩, ⟨_, _, _, rfl, ?izy, rfl, zext16_toNat _, zext16_succ_toNat _⟩,
    fun m hm => ?noPointer, fun m hm => ?noOperand, fun m hm => ?oneOperand, fun m hm => ?twoOperands⟩
  case zp => exact (natZp_eq_toNat_eaZp _).symm
  case zpy => exact (natZpy_eq_toNat_eaZpy _ s).symm
  case abx => exact (natAbx_eq_toNat_eaAbx _ s).symm
  case aby => exact (natAby_eq_toNat_eaAby _ s).symm
  case ind => exact (natInd_eq_toNat_eaInd _ s).symm
  case izy => exact (natIzy_eq_toNat_eaIzy _ s).symm
  case noPointer =>
    cases m
    case ind | izx | izy => exact (hm (of_decide_eq_true rfl)).elim
    all_goals rfl
  case noOperand | oneOperand | twoOperands => fin_cases hm <;> rfl

/-! ### The displacement of a branch -/

theorem sext16_toInt (v : Byte) : (sext16 v).toInt = v.toInt :=
  BitVec.toInt_signExtend_of_le (by decide)

theorem toInt_byte_bounds (v : Byte) : -128 ≤ v.toInt ∧ v.toInt ≤ 127 := by
  have := v.isLt
  rw [toInt_eq_ite]
  split <;> omega

theorem lowByte_toNat (w : Addr) : (lowByte w).toNat = w.toNat % 256 := by
  rw [lowByte, BitVec.extractLsb'_toNat, Nat.shiftRight_zero]

/-- A distance that a signed byte can hold is the sign extension of its low byte. -/
theorem sext16_lowByte {d : Addr} (h : -128 ≤ d.toInt ∧ d.toInt ≤ 127) : sext16 (lowByte d) = d := by
  apply BitVec.eq_of_toInt_eq
  have := d.isLt
  rw [BitVec.toInt_eq_toNat_cond d] at h ⊢
  rw [sext16_toInt, toInt_eq_ite, lowByte_toNat]
  split at h <;> split <;> omega

/-- The address after a branch and a displacement make the target when the displacement is the distance between them. -/
theorem add_eq_iff_eq_sub_next (p t d : Addr) : p + 2 + d = t ↔ d = t - (p + 2) := by
  rw [eq_sub_iff_add_eq, add_comm d]

/-- Settles O7: a displacement reaches the target exactly when its sign extension is the distance. -/
theorem branchOffsetReachesItsTarget : Obligations.BranchOffsetReachesItsTarget := by
  intro p t
  simp only [ne_eq, add_eq_iff_eq_sub_next, branchOffset]
  by_cases hfits : -128 ≤ (t - (p + 2)).toInt ∧ (t - (p + 2)).toInt ≤ 127
  · rw [if_pos hfits]
    refine ⟨fun rel8 hrel => ?_, nofun⟩
    cases hrel
    exact sext16_lowByte hfits
  · rw [if_neg hfits]
    refine ⟨nofun, fun _ rel8 hrel => hfits ?_⟩
    rw [← hrel, sext16_toInt]
    exact toInt_byte_bounds rel8

end Sys2Proof.Machine
end

section
/-! PROOF. The host: reset, initial storage, reads, writes and `load_sequential` (70_reset_and_hazards.md R330, 20_memory.md R70 to
R72). A load is a row of writes at addresses that do not wrap, so its bytes stand where it put them. -/

namespace Sys2Proof.Machine

/-- Settles O52: reset is one update of the whole state. -/
theorem resetSetsTheCoreAndLeavesStorage : Obligations.ResetSetsTheCoreAndLeavesStorage :=
  ⟨fun _ _ _ _ => rfl, rfl, rfl, rfl, rfl⟩

/-- Settles O55: storage reads after a write, and every other field is untouched. -/
theorem hostWritesReachStorageAndNothingElse : Obligations.HostWritesReachStorageAndNothingElse :=
  fun s p v => ⟨rfl, s.write p v, rfl, s.read_write_same p v, fun _ hq => s.read_write_ne v hq, rfl⟩

/-! ### Initial storage -/

/-- The first address of the span reads the function there, listed or not; any other reads in the rest. -/
theorem Memory.read_ofFnFrom_succ (f : Addr → Byte) {lo n : Nat} (hspan : lo + (n + 1) ≤ Config.memSize) (a : Nat) :
    (Memory.ofFnFrom f lo (n + 1)).read a =
      if lo = a then f (BitVec.ofNat 16 lo) else (Memory.ofFnFrom f (lo + 1) n).read a := by
  rw [Memory.ofFnFrom]
  by_cases hunlisted : f (BitVec.ofNat 16 lo) = Config.unlistedByte
  · have hrest := Memory.ofFnFrom_wfFrom f n (lo + 1) (by omega)
    rw [if_pos hunlisted, hunlisted]
    split
    · next heq => exact Memory.read_below hrest (by omega)
    · rfl
  · rw [if_neg hunlisted, Memory.read]

/-- Inside its span the memory reads the function. -/
theorem Memory.read_ofFnFrom (f : Addr → Byte) {a lo n : Nat} (hspan : lo + n ≤ Config.memSize) (hlo : lo ≤ a)
    (hhi : a < lo + n) : (Memory.ofFnFrom f lo n).read a = f (BitVec.ofNat 16 a) := by
  induction n generalizing lo with
  | zero => omega
  | succ n ih =>
    rw [Memory.read_ofFnFrom_succ f hspan]
    split
    · next heq => rw [heq]
    · exact ih (by omega) (by omega) (by omega)

theorem Memory.read_ofFn (f : Addr → Byte) (p : Addr) : (Memory.ofFn f).read p.toNat = f p := by
  have hp : p.toNat < 0 + Config.memSize := by simpa [Config.memSize] using p.isLt
  rw [Memory.ofFn, Memory.read_ofFnFrom f (Nat.zero_add _).le (Nat.zero_le _) hp, BitVec.ofNat_toNat, BitVec.setWidth_eq]

/-- Settles O53: launch puts that memory in place and takes its registers from its arguments. -/
theorem launchHoldsAnyInitialStorage : Obligations.LaunchHoldsAnyInitialStorage :=
  fun _ _ _ memInit => ⟨Memory.read_ofFn memInit, rfl, rfl, rfl, rfl⟩

/-! ### Loading a program -/

/-- Writing a list of bytes writes storage alone. -/
theorem State.writeBytes_eq (s : State) (a : Addr) (bytes : List Byte) :
    s.writeBytes a bytes = { s with mem := (s.writeBytes a bytes).mem } := by
  induction bytes generalizing s a with
  | nil => rfl
  | cons v rest ih => exact ih (s.write a v) (a + 1)

theorem add_ofNat_succ (a : Addr) (k : Nat) : a + BitVec.ofNat 16 (k + 1) = a + 1 + BitVec.ofNat 16 k := by
  rw [Nat.add_comm, BitVec.ofNat_add, ← add_assoc]
  rfl

/-- An address the list does not reach reads as before. -/
theorem State.read_writeBytes_of_ne (s : State) (a p : Addr) (bytes : List Byte)
    (h : ∀ k, k < bytes.length → p ≠ a + BitVec.ofNat 16 k) : (s.writeBytes a bytes).read p = s.read p := by
  induction bytes generalizing s a with
  | nil => rfl
  | cons v rest ih =>
    have hfirst : p ≠ a := by simpa using h 0 (Nat.succ_pos _)
    have hrest : ∀ k, k < rest.length → p ≠ a + 1 + BitVec.ofNat 16 k := fun k hk =>
      add_ofNat_succ a k ▸ h (k + 1) (Nat.succ_lt_succ hk)
    exact (ih (s.write a v) (a + 1) hrest).trans (s.read_write_ne v hfirst)

/-- Adding a positive number below 65536 moves an address. -/
theorem ne_add_ofNat {a : Addr} {k : Nat} (hpos : 0 < k) (hk : k < 65536) : a ≠ a + BitVec.ofNat 16 k := by
  have := a.isLt
  rw [ne_eq, ← BitVec.toNat_inj, BitVec.toNat_add, BitVec.toNat_ofNat]
  omega

/-- Byte `k` of the list stands `k` addresses on, while the list is shorter than storage. -/
theorem State.read_writeBytes (s : State) (a : Addr) (bytes : List Byte) (hlen : bytes.length ≤ 65536) (k : Nat)
    (hk : k < bytes.length) : (s.writeBytes a bytes).read (a + BitVec.ofNat 16 k) = bytes[k] := by
  induction bytes generalizing s a k with
  | nil => cases hk
  | cons v rest ih =>
    rw [List.length_cons] at hlen
    cases k with
    | zero =>
      have hlater : ∀ j, j < rest.length → a ≠ a + 1 + BitVec.ofNat 16 j := fun j hj =>
        add_ofNat_succ a j ▸ ne_add_ofNat (Nat.succ_pos j) (by omega)
      calc (s.writeBytes a (v :: rest)).read (a + BitVec.ofNat 16 0)
          _ = ((s.write a v).writeBytes (a + 1) rest).read a := by rw [BitVec.add_zero]; rfl
          _ = (s.write a v).read a := State.read_writeBytes_of_ne _ _ a rest hlater
          _ = v := s.read_write_same a v
    | succ k =>
      rw [add_ofNat_succ]
      exact ih (s.write a v) (a + 1) (by omega) k (Nat.lt_of_succ_lt_succ hk)

/-- Settles O54: the cursor's address plus the length stays below 65536, so the addresses written are distinct. -/
theorem loadSequentialAppendsAtTheCursor : Obligations.LoadSequentialAppendsAtTheCursor := by
  intro s bytes
  refine ⟨fun hle => ⟨_, apply_loadSequential_of_le hle, ?placed, ?others, ?cursor, ?frame⟩, apply_loadSequential_of_gt⟩
  case placed =>
    intro k hk
    exact s.read_writeBytes s.cursor bytes (by omega) k hk
  case others => exact fun p hp => s.read_writeBytes_of_ne s.cursor p bytes hp
  case cursor =>
    rw [State.setCursor_cursor, BitVec.toNat_add, BitVec.toNat_ofNat]
    omega
  case frame =>
    rw [State.writeBytes_eq]
    rfl

end Sys2Proof.Machine
end

section
/-! PROOF. The decode-only opcodes (46_decode_only.md rules R250 to R278): each has its bytes, its descriptor and the fault that
every decode-only instruction ends in. -/

namespace Sys2Proof.Machine

/-- A decode-only instruction has the form its bytes and its descriptor give it (R250). -/
theorem StopForm.of_decodeOnly {i : Instr} {bytes : List Byte} {cycles : Nat} {op : Op} {mode : Mode}
    (hbytes : encode i = bytes) (hcycles : i.cycles = cycles) (hentry : i.entry = ⟨op, mode⟩) (hc : i.cls = .decodeOnly)
    (s : State) : StopForm i bytes cycles op mode s := by
  subst hbytes hcycles
  refine ⟨rfl, ?_, ?_⟩
  · rw [decodeByte_opcode, Instr.descriptor, encode_length, hc, hentry]
  · rw [exec_of_decodeOnly hc, hentry]

/-- Settles O12: every form is a decode-only one. -/
theorem decodeOnlyLogicAndShiftsStop : Obligations.DecodeOnlyLogicAndShiftsStop := by
  intro s imm8 zp8 addr16
  refine ⟨?oraImm, ?oraZp, ?oraZpx, ?oraAbs, ?oraAbx, ?oraAby, ?oraIzx, ?oraIzy, ?eorImm, ?eorZp, ?eorZpx, ?eorAbs,
    ?eorAbx, ?eorAby, ?eorIzx, ?eorIzy, ?sbcImm, ?sbcZp, ?sbcZpx, ?sbcAbs, ?sbcAbx, ?sbcAby, ?sbcIzx, ?sbcIzy,
    ?lsrAcc, ?lsrZp, ?lsrZpx, ?lsrAbs, ?lsrAbx, ?rolAcc, ?rolZp, ?rolZpx, ?rolAbs, ?rolAbx, ?rorAcc, ?rorZp, ?rorZpx,
    ?rorAbs, ?rorAbx⟩
  all_goals exact .of_decodeOnly rfl rfl rfl rfl s

/-- Settles O13: every form is a decode-only one. -/
theorem decodeOnlyTransfersAndStackStop : Obligations.DecodeOnlyTransfersAndStackStop := by
  intro s
  refine ⟨?tax, ?tay, ?txa, ?tya, ?tsx, ?txs, ?pha, ?pla, ?php, ?plp⟩
  all_goals exact .of_decodeOnly rfl rfl rfl rfl s

/-- Settles O14: every form is a decode-only one. -/
theorem decodeOnlyCallsAndFlagChangesStop : Obligations.DecodeOnlyCallsAndFlagChangesStop := by
  intro s addr16
  refine ⟨?jsr, ?rts, ?rti, ?brk, ?nop, ?clc, ?sec, ?cli, ?sei, ?clv, ?cld, ?sed⟩
  all_goals exact .of_decodeOnly rfl rfl rfl rfl s

end Sys2Proof.Machine
end
